-- ==== Sys2Proof/Word.lean ====
section
/-! DEFINITION. The word types of the Lambric 3140 (spec/00_scope.md sections 4 and 7): bit vectors for what
the unit masks, shifts or adds, bounded numbers for what it only names. -/

namespace Sys2Proof

/-- One byte carried on the S-link. -/
abbrev Byte := BitVec 8

/-- 32 bits of data, or a 32-bit policy parameter. -/
abbrev Word := BitVec 32

/-- A 30-bit word address: the byte address divided by four (spec/00_scope.md 7.2). -/
abbrev WordAddr := BitVec 30

/-- A lane mask, lane 0 in bit 0. -/
abbrev Lanes := BitVec 4

/-- A value of the 32-bit microsecond time base (spec/00_scope.md 7.5). -/
abbrev Time := BitVec 32

/-- The tag of a request on the H-port, 0 to 15. -/
abbrev HTag := Fin 16

/-- The tag of a request on the M-port, 0 to 7. -/
abbrev MTag := Fin 8

/-- A region index, 0 to 31. -/
abbrev RegionIndex := Fin 32

/-- A group number, 0 to 3. -/
abbrev GroupIndex := Fin 4

/-- A matcher number, 0 to 3. -/
abbrev MatcherIndex := Fin 4

/-- The byte address of a word: its word address times four. -/
def byteAddr (w : WordAddr) : BitVec 32 := w ++ (0 : BitVec 2)

/-- The word address that a byte address names: the byte address divided by four. -/
def wordOfByteAddr (a : BitVec 32) : WordAddr := a.extractLsb' 2 30

end Sys2Proof
end

