-- ==== Sys2Proof/Syntax.lean ====
section
/-! DEFINITION. The commands of the unit: one constructor of `Instr` for each row of spec/opcode_table.json,
in the table's order, with the operands the spec gives the row. -/

namespace Sys2Proof

/-- Access kind of a request on either link port (Tables 2-1 and 5-1). -/
inductive AccessKind where
  | read
  | write
deriving DecidableEq, Repr

/-- Status of a memory response (Table 5-1). -/
inductive MemStatus where
  | okay
  | error
deriving DecidableEq, Repr

/-- A request on the H-port (Table 2-1). -/
structure HostRequest where
  tag : HTag
  kind : AccessKind
  word : WordAddr
  lanes : Lanes
  data : Word
deriving DecidableEq, Repr

/-- A response on the M-port (Table 5-1). -/
structure MemResponse where
  tag : MTag
  status : MemStatus
  data : Word
deriving DecidableEq, Repr

/-- The management commands of Table 10-3. -/
inductive Command where
  | readStatus
  | setMode
  | lockConfig
  | setTiming
  | fetchTiming
  | loadRegion
  | fetchRegion
  | dropRegion
  | loadSequence
  | fetchSequence
  | dropSequence
  | openWindow
  | closeWindow
  | freezeGroup
  | takeEvent
  | ackAttn
  | setAttnMask
  | resetMport
deriving DecidableEq, Repr

/-- The steps of the unit, one for each row of spec/opcode_table.json. -/
inductive Instr where
  /-- ARRIVAL: the master offers a request at the H-port (R19, R22). -/
  | arrival (req : HostRequest)
  /-- ANSWER_TAKEN: the master takes the oldest answer (R21). -/
  | answerTaken
  /-- DELIVERY: the master takes the response at the head of the delivery queue (R78). -/
  | delivery
  /-- MPORT_REQUEST_TAKEN: memory takes the request on offer (R86). -/
  | mportRequestTaken
  /-- MPORT_RESPONSE_TAKEN: memory offers a response at the M-port (R84). -/
  | mportResponseTaken (resp : MemResponse)
  /-- VERIFY_LIMIT_EXPIRY: the timer of an ACTIVE VERIFY tag expires (R90). -/
  | verifyLimitExpiry (tag : MTag)
  /-- FORWARD_LIMIT_EXPIRY: the timer of an ACTIVE forward tag expires (R91). -/
  | forwardLimitExpiry (tag : MTag)
  /-- MPORT_RESET_END: the timer of the M-port reset ends (R99). -/
  | mportResetEnd
  /-- READ_STATUS (R167). -/
  | readStatus
  /-- SET_MODE with its mode byte (R163). -/
  | setMode (mode : Byte)
  /-- LOCK_CONFIG (R164). -/
  | lockConfig
  /-- SET_TIMING with its timing image (R165). -/
  | setTiming (image : Vector Byte 12)
  /-- FETCH_TIMING (R166). -/
  | fetchTiming
  /-- LOAD_REGION with its index byte and region image (R12). -/
  | loadRegion (index : Byte) (image : Vector Byte 32)
  /-- FETCH_REGION with its index byte (R17). -/
  | fetchRegion (index : Byte)
  /-- DROP_REGION with its index byte (R13). -/
  | dropRegion (index : Byte)
  /-- LOAD_SEQUENCE with its index byte and sequence image (R116). -/
  | loadSequence (index : Byte) (image : Vector Byte 68)
  /-- FETCH_SEQUENCE with its index byte (R118). -/
  | fetchSequence (index : Byte)
  /-- DROP_SEQUENCE with its index byte (R117). -/
  | dropSequence (index : Byte)
  /-- OPEN_WINDOW with its group byte and duration in milliseconds (R110). -/
  | openWindow (group : Byte) (duration : BitVec 16)
  /-- CLOSE_WINDOW with its group byte (R106). -/
  | closeWindow (group : Byte)
  /-- FREEZE_GROUP with its group byte (R107). -/
  | freezeGroup (group : Byte)
  /-- TAKE_EVENT, up to its effect event (R142). -/
  | takeEvent
  /-- TAKE_EVENT_REMOVAL: the last reply byte of a DONE TAKE_EVENT is clocked out (R143). -/
  | takeEventRemoval
  /-- ACK_ATTN with its cause set (R152). -/
  | ackAttn (causes : Byte)
  /-- SET_ATTN_MASK with its cause set (R150). -/
  | setAttnMask (causes : Byte)
  /-- RESET_MPORT (R96). -/
  | resetMport
  /-- BAD_COMMAND: an unknown command byte is taken (R159). -/
  | badCommand (code : Byte)
  /-- FRAME_DESELECT: SCS_N is deasserted (R158). -/
  | frameDeselect
  /-- WINDOW_EXPIRY of a group (R108). -/
  | windowExpiry (group : GroupIndex)
  /-- DEADLINE_EXPIRY of a matcher (R125). -/
  | deadlineExpiry (matcher : MatcherIndex)
  /-- PULSE_END: the reset output's timer reaches its end time (R131). -/
  | pulseEnd
  /-- REPULSE_GAP_END (R154). -/
  | repulseGapEnd
  /-- COALESCING_CLOSE: the closing time of the open record is reached (R138). -/
  | coalescingClose
  /-- POWER_ON_RESET: the supply monitor resets the unit (R81 and its like). -/
  | powerOnReset
  /-- LINE_RESET_ASSERT: RST_N is asserted (R80 and its like). -/
  | lineResetAssert
  /-- LINE_RESET_RELEASE: RST_N is released (R146). -/
  | lineResetRelease
  /-- SELECT_PERIOD_BEGIN: SCS_N is asserted (R156). -/
  | selectPeriodBegin
  /-- SLINK_BYTE_TAKEN: a byte is taken on SDI (R156, R157). -/
  | slinkByteTaken (byte : Byte)
  /-- POWER_ON_RESET_END: power-on reset ends (R101). -/
  | powerOnResetEnd
deriving DecidableEq, Repr

end Sys2Proof
end

