-- ==== Sys2Proof/Decode.lean ====
section
/-! DEFINITION. The command table of the S-link (Table 10-3): codes, byte counts and the lock column; and
the host's decoder. No row of spec/opcode_table.json gives bits, so no word spells a command. -/

namespace Sys2Proof

/-- The command code of Table 10-3. -/
def Command.code : Command → Byte
  | .readStatus => 0x10
  | .setMode => 0x11
  | .lockConfig => 0x12
  | .setTiming => 0x13
  | .fetchTiming => 0x14
  | .loadRegion => 0x20
  | .fetchRegion => 0x21
  | .dropRegion => 0x22
  | .loadSequence => 0x30
  | .fetchSequence => 0x31
  | .dropSequence => 0x32
  | .openWindow => 0x40
  | .closeWindow => 0x41
  | .freezeGroup => 0x42
  | .takeEvent => 0x50
  | .ackAttn => 0x51
  | .setAttnMask => 0x52
  | .resetMport => 0x60

/-- Every command of Table 10-3, in the table's order. -/
def Command.all : List Command :=
  [.readStatus, .setMode, .lockConfig, .setTiming, .fetchTiming, .loadRegion, .fetchRegion, .dropRegion,
   .loadSequence, .fetchSequence, .dropSequence, .openWindow, .closeWindow, .freezeGroup, .takeEvent,
   .ackAttn, .setAttnMask, .resetMport]

/-- The command a command byte names, none when it is unknown (R159). -/
def Command.ofCode? (b : Byte) : Option Command :=
  Command.all.find? (fun c => c.code == b)

/-- Argument bytes of a command (Table 10-3). -/
def Command.argCount : Command → Nat
  | .setMode => 1
  | .setTiming => 12
  | .loadRegion => 33
  | .fetchRegion => 1
  | .dropRegion => 1
  | .loadSequence => 69
  | .fetchSequence => 1
  | .dropSequence => 1
  | .openWindow => 3
  | .closeWindow => 1
  | .freezeGroup => 1
  | .ackAttn => 1
  | .setAttnMask => 1
  | .readStatus => 0
  | .lockConfig => 0
  | .fetchTiming => 0
  | .takeEvent => 0
  | .resetMport => 0

/-- Reply bytes of a command (Table 10-3). -/
def Command.replyCount : Command → Nat
  | .readStatus => 16
  | .fetchTiming => 12
  | .fetchRegion => 33
  | .fetchSequence => 72
  | .takeEvent => 32
  | .setMode => 0
  | .lockConfig => 0
  | .setTiming => 0
  | .loadRegion => 0
  | .dropRegion => 0
  | .loadSequence => 0
  | .dropSequence => 0
  | .openWindow => 0
  | .closeWindow => 0
  | .freezeGroup => 0
  | .ackAttn => 0
  | .setAttnMask => 0
  | .resetMport => 0

/-- The lock column of Table 10-3: whether the command is allowed under the configuration lock.
LOCK_CONFIG is refused LOCKED when the lock is already set (R164). -/
def Command.allowedUnderLock : Command → Bool
  | .setMode => false
  | .lockConfig => false
  | .setTiming => false
  | .loadRegion => false
  | .dropRegion => false
  | .loadSequence => false
  | .dropSequence => false
  | .openWindow => false
  | .readStatus => true
  | .fetchTiming => true
  | .fetchRegion => true
  | .fetchSequence => true
  | .closeWindow => true
  | .freezeGroup => true
  | .takeEvent => true
  | .ackAttn => true
  | .setAttnMask => true
  | .resetMport => true

/-- The command that a word of the opcode table spells. No row of the table gives bits, so there is none. -/
def decodeTableWord (_nbits _w : Nat) : Option Instr := none

end Sys2Proof
end

