-- ==== Sys2Proof/Config.lean ====
section
/-! DEFINITION. What the spec leaves open and the model leaves free: constants without a body, of which
nothing can be proved. -/

namespace Sys2Proof

/-- The free choice made at the n-th point where the spec says that either of several things may come first
(R119, R126 and R137: requests that different blocks make at one event; R69: a record that becomes READY
as an M-tag is freed; R108, R125 and their like: timers that come due together).
Notes 3, 4 and 5 of the assumption log. -/
opaque Config.choice : Nat → Nat

/-- Whether the time base counts while power-on reset is in progress: spec/00_scope.md 7.5 says only that it
starts at 0 at power-on reset. Note 6 of the assumption log. -/
opaque Config.timeBaseRunsInPowerOnReset : Bool

end Sys2Proof
end

