-- ==== Sys2Proof/Machine/State.lean ====
section
/-! DEFINITION. The state of the Lambric 3140 as plain data: every table, queue, timer, latch, setting and
line that spec/ names, one home for each (INVENTORY.md lists them with their rules), and the state right
after power-on reset. Lines the spec defines from other state (ATTN_N, RSTO_N, MRST_N, SDO, the offers on the
ports) are computed in Machine/Flags.lean and are not stored twice. -/

namespace Sys2Proof.Machine

/-! ### The region table (chapter 1) -/

/-- Element width (R3). -/
inductive ElementWidth where
  | w8
  | w16
  | w32
deriving DecidableEq, Repr

/-- Read action (R6, Table 1-3). -/
inductive ReadAction where
  | pass
  | note
  | substitute
  | refuse
deriving DecidableEq, Repr

/-- Violation action (R7). -/
inductive ViolationAction where
  | quiet
  | error
  | note
deriving DecidableEq, Repr

/-- A policy with its parameters P1, P2 and flag (Table 1-4). A FREE or FROZEN policy has none (R10); the
flag of STEPPED is `wrapAllow`, that of GATED is `nonzero`, and P1 of GATED is the companion's byte address. -/
inductive Policy where
  | free
  | frozen
  | bounded (lo hi : Word)
  | stepped (lo hi : Word) (wrapAllow : Bool)
  | gated (companion : BitVec 32) (nonzero : Bool)
deriving DecidableEq, Repr

/-- A region entry (Table 1-1). -/
structure Region where
  base : BitVec 32
  count : BitVec 24
  width : ElementWidth
  signed : Bool
  natural : Bool
  allowByte : Bool
  allowHalf : Bool
  allowWord : Bool
  readAction : ReadAction
  fill : Word
  violation : ViolationAction
  writeNote : Bool
  primary : Policy
  group : Option GroupIndex
  alternate : Option Policy
deriving DecidableEq, Repr

/-! ### Groups (chapter 6) -/

/-- The state of a group (Table 6-1); an OPEN group holds its expiry time. -/
inductive Group where
  | closed
  | opened (expiry : Time)
  | frozen
deriving DecidableEq, Repr

/-! ### Sequence matchers (chapter 7) -/

/-- One step of a sequence (Table 7-1). -/
structure SeqStep where
  kind : AccessKind
  region : RegionIndex
  mask : Word
  value : Word
deriving DecidableEq, Repr

/-- The action of a matcher (Table 7-5). Durations are in milliseconds. -/
inductive SeqAction where
  | noteOnly
  | resetPulse
  | openWindow (group : GroupIndex) (duration : BitVec 16)
  | freezeGroup (group : GroupIndex)
deriving DecidableEq, Repr

/-- The definition of a matcher (Table 7-1): its steps, its gap in milliseconds and its action. -/
structure SeqDef where
  steps : List SeqStep
  gap : BitVec 16
  action : SeqAction
deriving DecidableEq, Repr

/-- A defined matcher: its definition and its running state (Table 7-2). -/
structure Matcher where
  defn : SeqDef
  progress : Nat
  deadline : Option Time
deriving DecidableEq, Repr

/-! ### The event log (chapter 8) -/

/-- Event kinds, in the order of their codes (Tables 8-3 and 10-9). -/
inductive EventKind where
  | writeRefused
  | writeNoted
  | readRefused
  | readSubstituted
  | readNoted
  | shapeFault
  | malformed
  | tagClash
  | verifyFault
  | forwardFault
  | forwardTimeout
  | lateResponse
  | mportResetDone
  | sequenceDone
  | sequenceLapsed
  | windowOpened
  | windowClosed
  | windowRefused
  | groupFrozen
  | lineReset
  | overflow
deriving DecidableEq, Repr

/-- Reasons, in the order of their codes (Tables 8-4 and 10-9). `passing` is the spec's NONE, the reason of a
noted write that passed; an absent reason is `Option.none`. -/
inductive Reason where
  | passing
  | frozen
  | groupFrozen
  | outOfRange
  | stepOut
  | stepWrap
  | gateClosed
  | size
  | align
  | error
  | timeout
  | broken
  | extended
  | expired
  | command
deriving DecidableEq, Repr

/-- The access field of an event or record: one field of three parts (Table 8-2). -/
structure Access where
  htag : HTag
  kind : AccessKind
  lanes : Lanes
deriving DecidableEq, Repr

/-- What an append request carries beside its time (Table 8-2). A word address stands for its byte address. -/
structure Event where
  kind : EventKind
  reason : Option Reason := none
  region : Option RegionIndex := none
  access : Option Access := none
  word : Option WordAddr := none
  attempted : Option Word := none
  reference : Option Word := none
  matcher : Option MatcherIndex := none
  group : Option GroupIndex := none
  count : Option (BitVec 16) := none
deriving DecidableEq, Repr

/-- A record of the event log (Table 8-2). -/
structure Record where
  seq : BitVec 16
  firstTime : Time
  lastTime : Time
  repeatCount : Nat
  event : Event
deriving DecidableEq, Repr

/-! ### The transaction table and the H-port (chapters 2 to 4) -/

/-- H-port statuses (Table 2-2). -/
inductive HostStatus where
  | okay
  | refused
  | fault
  | malformed
  | clash
deriving DecidableEq, Repr

/-- A response on the H-port (R20). -/
structure HostResponse where
  tag : HTag
  status : HostStatus
  data : Word
deriving DecidableEq, Repr

/-- The policy copied into a write's snapshot: a policy of the entry or the group-frozen policy (R30). -/
inductive SelectedPolicy where
  | entry (p : Policy)
  | groupFrozen
deriving DecidableEq, Repr

/-- The snapshot of a watched write (R30). -/
structure Snapshot where
  region : RegionIndex
  policy : SelectedPolicy
  width : ElementWidth
  signed : Bool
  violation : ViolationAction
  writeNote : Bool
deriving DecidableEq, Repr

/-- The classification of a record (Table 4-1): absent for BYPASS or an unwatched word. -/
inductive Classification where
  | unwatched
  | watchedRead (action : ReadAction) (region : RegionIndex)
  | watchedWrite (snapshot : Snapshot)
deriving DecidableEq, Repr

/-- The states of a record (Table 4-2). -/
inductive TxnState where
  | waiting
  | ready
  | verifying
  | issuePending
  | issued
  | complete
deriving DecidableEq, Repr

/-- A record of the transaction table (Table 4-1). `touched` lists the target first. The data of a read is
held as zero (log entry 17). -/
structure Txn where
  htag : HTag
  kind : AccessKind
  word : WordAddr
  lanes : Lanes
  data : Word
  classification : Classification
  needsVerify : Bool
  touched : List WordAddr
  companion : Option WordAddr
  state : TxnState
  holdSlot : Bool
  mtag : Option MTag
  verifyWord : Option Word
  passNote : Option Reason
  response : Option (HostStatus × Word)
deriving DecidableEq, Repr

/-! ### The M-port (chapter 5) -/

/-- The purpose of a request at the M-port (Table 5-2). -/
inductive Purpose where
  | verify
  | forwardRead
  | forwardWrite
deriving DecidableEq, Repr

/-- What an ACTIVE tag carries (Table 5-2). `taken` is absent until memory takes the request, and then holds
the time of the taking and the recorded limit (R86). -/
structure ActiveTag where
  purpose : Purpose
  word : WordAddr
  owner : HTag
  taken : Option (Time × BitVec 16)
deriving DecidableEq, Repr

/-- What an ORPHANED tag keeps (Table 5-2). -/
structure OrphanTag where
  purpose : Purpose
  word : WordAddr
  htag : HTag
  lanes : Lanes
  region : Option RegionIndex
deriving DecidableEq, Repr

/-- An M-tag entry (R85). -/
inductive TagEntry where
  | free
  | active (tag : ActiveTag)
  | orphaned (tag : OrphanTag)
deriving DecidableEq, Repr

/-- The port state; RESETTING holds the end of its 8 µs timer and the count of aborted records (R96, R97). -/
inductive PortState where
  | ready
  | resetting (endTime : Time) (aborted : Nat)
deriving DecidableEq, Repr

/-! ### Attention (chapter 9) -/

/-- The four causes (R149). -/
inductive Cause where
  | log
  | lost
  | sequence
  | memory
deriving DecidableEq, Repr

/-- A set of causes: the latched ones, or the unmasked ones (Table 9-1). -/
structure CauseSet where
  log : Bool
  lost : Bool
  sequence : Bool
  memory : Bool
deriving DecidableEq, Repr

/-! ### The management link (chapter 10) -/

/-- The unit mode (R162). -/
inductive UnitMode where
  | bypass
  | enforce
deriving DecidableEq, Repr

/-- The attention output mode (chapter 9). -/
inductive AttnMode where
  | steady
  | repulse
deriving DecidableEq, Repr

/-- The six timing settings (Table 10-6). -/
structure Timing where
  verifyLimit : BitVec 16
  forwardLimit : BitVec 16
  coalescing : BitVec 16
  pulseLength : BitVec 8
  threshold : BitVec 8
  attnMode : AttnMode
deriving DecidableEq, Repr

/-- Result codes (Table 10-2). -/
inductive Result where
  | done
  | empty
  | locked
  | badIndex
  | badField
  | badCommand
  | busy
  | wrongMode
deriving DecidableEq, Repr

/-- The phases of a frame after its effect event (Table 10-1). -/
inductive OutPhase where
  | turnaround
  | result
  | reply (position : Nat)
  | trailer
deriving DecidableEq, Repr

/-- The state of the S-link's select period and frame (R156 to R160). `idle` is SCS_N deasserted; `ignored`
is a select period ignored to its end; `argument` holds the bytes collected so far, whose number is the
position in the phase. From the effect event on, the result and the reply bytes are fixed. -/
inductive Frame where
  | idle
  | ignored
  | command
  | argument (cmd : Command) (args : List Byte)
  | output (cmd : Command) (phase : OutPhase) (result : Result) (reply : List Byte)
  | unknown
deriving DecidableEq, Repr

/-! ### The whole state -/

/-- The state of the unit. -/
structure State where
  /-- The time base (spec/00_scope.md 7.5). -/
  timeBase : Time
  /-- Power-on reset is in progress (R101). -/
  powerOn : Bool
  /-- The line RST_N is asserted (R80). -/
  rstAsserted : Bool
  /-- The H-port's answer queue, oldest first (R21). -/
  answers : List HostResponse
  /-- The transaction table, in arrival order (R60). -/
  table : List Txn
  /-- The delivery queue, oldest first, by H-tag (R77). -/
  deliveries : List HTag
  /-- The M-tag entries (R85). -/
  mtags : Vector TagEntry 8
  /-- The M-tag whose request is on offer and not yet taken (R83). -/
  onOffer : Option MTag
  /-- The port state (R96). -/
  port : PortState
  /-- The region table (R1). -/
  regions : Vector (Option Region) 32
  /-- The groups (R102). -/
  groups : Vector Group 4
  /-- The sequence matchers, absent or defined (R114). -/
  matchers : Vector (Option Matcher) 4
  /-- The reset output's timer: stopped, or running with its end time (7.10). -/
  pulse : Option Time
  /-- The records of the event log, oldest first (R132). -/
  records : List Record
  /-- The next sequence number (R135). -/
  nextSeq : BitVec 16
  /-- The lost-event count, saturating at 65,535 (R141). -/
  lost : Nat
  /-- The first-loss time (R141). -/
  firstLoss : Option Time
  /-- The latest-loss time (R141). -/
  latestLoss : Option Time
  /-- The open mark: absent, or on the newest record with this closing time (R138). -/
  openUntil : Option Time
  /-- The taking mark: set while the head is named by a TAKE_EVENT in progress (R142). -/
  taking : Bool
  /-- The latched causes (R149). -/
  latches : CauseSet
  /-- The attention mask (R150). -/
  mask : CauseSet
  /-- The repulse gap: stopped, or running with its end time (R153). -/
  gap : Option Time
  /-- The unit mode (R162). -/
  mode : UnitMode
  /-- The configuration lock is set (R162). -/
  lock : Bool
  /-- The timing settings (R165). -/
  timing : Timing
  /-- The S-link's select period and frame (R157). -/
  frame : Frame
  /-- The model's own: how many free choices have been made (log entry 3). -/
  choices : Nat
  /-- The model's own: the commands that wait, first in, first out. -/
  pending : List Instr
deriving DecidableEq, Repr

/-- Why the machine may stop with a fault: no event or command of the spec does, so there is no such reason.
Every command that the unit cannot take, or whose operands the spec refuses, has the outcome the spec gives it. -/
inductive Fault where
deriving DecidableEq, Repr

/-- Why a command may be refused by the model. -/
inductive Refusal where
  /-- Raised by an arm of exec for a command without a meaning; no arm does. Safe: the machine stops. -/
  | notModelled (mnemonic : String)
deriving DecidableEq, Repr

/-- No cause. -/
def CauseSet.empty : CauseSet := ⟨false, false, false, false⟩

/-- The timing settings after power-on reset (Table 10-6). -/
def Timing.reset : Timing where
  verifyLimit := 250
  forwardLimit := 2000
  coalescing := 500
  pulseLength := 20
  threshold := 1
  attnMode := .steady

/-- The unit right after power-on reset has ended, with RST_N released, SCS_N deasserted and nothing waiting:
R1, R21, R81, R85, R101, R102, R114, R131, R147, R155, R160 and R162. The lines' levels and the model's own
fields are the choice of log entry 7. -/
def State.reset : State where
  timeBase := 0
  powerOn := false
  rstAsserted := false
  answers := []
  table := []
  deliveries := []
  mtags := Vector.replicate 8 .free
  onOffer := none
  port := .ready
  regions := Vector.replicate 32 none
  groups := Vector.replicate 4 .closed
  matchers := Vector.replicate 4 none
  pulse := none
  records := []
  nextSeq := 0
  lost := 0
  firstLoss := none
  latestLoss := none
  openUntil := none
  taking := false
  latches := .empty
  mask := .empty
  gap := none
  mode := .bypass
  lock := false
  timing := .reset
  frame := .idle
  choices := 0
  pending := []

end Sys2Proof.Machine
end

