-- ==== Sys2Proof/Machine/Ops.lean ====
section
/-! DEFINITION. The named operations over the unit's state that several blocks share: time, cause sets, the
M-tag entries, the transaction table's updates, and the order in which the requests of one event are taken. -/

namespace Sys2Proof.Machine

/-! ### Time (spec/00_scope.md 7.5) -/

/-- Microseconds after a moment, modulo 2^32. -/
def after (t : Time) (us : Nat) : Time := t + BitVec.ofNat 32 us

/-- Milliseconds after a moment, modulo 2^32 (R103). -/
def afterMs (t : Time) (ms : Nat) : Time := after t (ms * 1000)

/-- The microseconds from `now` until `t`, modulo 2^32 (R103). -/
def remaining (now t : Time) : Nat := (t - now).toNat

/-- The length of the M-port reset in microseconds (R96). -/
def mportResetLength : Nat := 8

/-- The length of the repulse gap in microseconds (R153). -/
def repulseGapLength : Nat := 16

/-! ### Capacities (spec/00_scope.md 7.7) -/

/-- The answer queue's capacity (R21). -/
def answerCapacity : Nat := 16

/-- The number of hold slots (R67). -/
def slotCount : Nat := 4

/-- The event log's capacity (R132). -/
def logCapacity : Nat := 16

/-- Where the lost-event count saturates (R141). -/
def lostMax : Nat := 65535

/-! ### Cause sets -/

/-- Whether a cause is in the set. -/
def CauseSet.has (c : CauseSet) : Cause → Bool
  | .log => c.log
  | .lost => c.lost
  | .sequence => c.sequence
  | .memory => c.memory

/-- The set with one cause added. -/
def CauseSet.insert (c : CauseSet) : Cause → CauseSet
  | .log => { c with log := true }
  | .lost => { c with lost := true }
  | .sequence => { c with sequence := true }
  | .memory => { c with memory := true }

/-- The causes of both sets. -/
def CauseSet.inter (a b : CauseSet) : CauseSet :=
  ⟨a.log && b.log, a.lost && b.lost, a.sequence && b.sequence, a.memory && b.memory⟩

/-- The causes of the first set that are not in the second. -/
def CauseSet.diff (a b : CauseSet) : CauseSet :=
  ⟨a.log && !b.log, a.lost && !b.lost, a.sequence && !b.sequence, a.memory && !b.memory⟩

/-- Whether the set holds any cause. -/
def CauseSet.any (c : CauseSet) : Bool := c.log || c.lost || c.sequence || c.memory

/-- A latch request: the cause becomes latched, whatever else holds (R149). -/
def State.latch (c : Cause) (s : State) : State := { s with latches := s.latches.insert c }

/-! ### M-tags and the transaction table -/

/-- The entry of an M-tag takes a value. -/
def State.setTag (m : MTag) (e : TagEntry) (s : State) : State :=
  { s with mtags := s.mtags.set m.val e m.isLt }

/-- The entry of an M-tag. -/
def State.tag (s : State) (m : MTag) : TagEntry := s.mtags[m]

/-- The state of a group. -/
def State.group (s : State) (g : GroupIndex) : Group := s.groups[g]

/-- A group takes a state. -/
def State.setGroup (g : GroupIndex) (x : Group) (s : State) : State :=
  { s with groups := s.groups.set g.val x g.isLt }

/-- The matcher of a number, absent or defined. -/
def State.matcher (s : State) (m : MatcherIndex) : Option Matcher := s.matchers[m]

/-- A matcher takes a value. -/
def State.setMatcher (m : MatcherIndex) (x : Option Matcher) (s : State) : State :=
  { s with matchers := s.matchers.set m.val x m.isLt }

/-- The region entry of an index, absent or present. -/
def State.region (s : State) (i : RegionIndex) : Option Region := s.regions[i]

/-- A place of the region table takes a value. -/
def State.setRegion (i : RegionIndex) (x : Option Region) (s : State) : State :=
  { s with regions := s.regions.set i.val x i.isLt }

/-- The record an H-tag names: no two records carry the same one (R60). -/
def State.txn? (s : State) (h : HTag) : Option Txn := s.table.find? (fun t => t.htag == h)

/-- Changes the record an H-tag names. -/
def State.updateTxn (h : HTag) (f : Txn → Txn) (s : State) : State :=
  { s with table := s.table.map (fun t => if t.htag == h then f t else t) }

/-- The hold slots in use: the records that hold one (R67). -/
def State.slotsInUse (s : State) : Nat := (s.table.filter (fun t => t.holdSlot)).length

/-- The region index a record was classified under, if any. -/
def Txn.region? (t : Txn) : Option RegionIndex :=
  match t.classification with
  | .unwatched => none
  | .watchedRead _ i => some i
  | .watchedWrite snap => some snap.region

/-! ### The order of what comes at one event

Requests that one block makes at one event are taken in the order it makes them; requests of different
blocks may be taken in either order (R137, and R119 and R126 for the matchers). `interleave` merges the
blocks' lists into one by free choices, and makes no choice where one list alone has anything left. -/

/-- Takes the head of the i-th list. -/
def takeHead {α : Type} (i : Nat) (chains : List (List α)) : List α × List (List α) :=
  match chains[i]? with
  | some (x :: rest) => ([x], chains.set i rest)
  | _ => ([], chains)

/-- The lists with something left in them. -/
def nonEmpty {α : Type} (chains : List (List α)) : List (List α) :=
  chains.filter (fun c => !c.isEmpty)

/-- One interleaving of the lists, chosen by the free choices from number `n` on, with the number of the next
choice; `fuel` is how many elements may still be taken one by one. -/
def interleaveFrom {α : Type} : Nat → List (List α) → Nat → List α × Nat
  | 0, chains, n => (chains.flatten, n)
  | fuel + 1, chains, n =>
    match nonEmpty chains with
    | [] => ([], n)
    | [c] => (c, n)
    | c :: d :: rest =>
      let live := c :: d :: rest
      let (x, left) := takeHead (Config.choice n % live.length) live
      let (xs, n') := interleaveFrom fuel left (n + 1)
      (x ++ xs, n')

/-- One interleaving of the lists, chosen freely. -/
def interleave {α : Type} (chains : List (List α)) (n : Nat) : List α × Nat :=
  interleaveFrom chains.flatten.length chains n

end Sys2Proof.Machine
end

