-- ==== Sys2Proof/Machine/Log.lean ====
section
/-! DEFINITION. The event log (chapter 8): append requests, coalescing, losses, and taking records. -/

namespace Sys2Proof.Machine

/-- The four classes of event kinds (R134). -/
inductive EventClass where
  | access
  | memory
  | policy
  | system
deriving DecidableEq, Repr

/-- The class of a kind (Table 8-3). -/
def EventKind.class : EventKind → EventClass
  | .writeRefused | .writeNoted | .readRefused | .readSubstituted | .readNoted
  | .shapeFault | .malformed | .tagClash => .access
  | .verifyFault | .forwardFault | .forwardTimeout | .lateResponse | .mportResetDone => .memory
  | .sequenceDone | .sequenceLapsed | .windowOpened | .windowClosed | .windowRefused | .groupFrozen => .policy
  | .lineReset | .overflow => .system

/-- A record and an event hold the same values in kind, reason, region index, word address and access kind;
two absent values are the same (R139). -/
def Event.sameSource (a b : Event) : Bool :=
  a.kind == b.kind && a.reason == b.reason && a.region == b.region && a.word == b.word
    && a.access.map (·.kind) == b.access.map (·.kind)

/-- The newest record, when the open mark names it. -/
def State.openRecord? (s : State) : Option Record :=
  if s.openUntil.isSome then s.records.getLast? else none

/-- An append request may coalesce into the newest record (R139). -/
def State.coalesces (s : State) (e : Event) : Bool :=
  e.kind.class == .access && s.openRecord?.any (fun r => r.event.sameSource e)

/-- A record with one more event coalesced into it (R139). -/
def Record.coalesce (r : Record) (e : Event) (now : Time) : Record :=
  { r with
    repeatCount := r.repeatCount + 1
    lastTime := now
    event := { r.event with access := e.access, attempted := e.attempted, reference := e.reference } }

/-- Changes the newest record. -/
def mapLast {α : Type} (f : α → α) : List α → List α
  | [] => []
  | [x] => [f x]
  | x :: y :: rest => x :: mapLast f (y :: rest)

/-- The record count has reached the attention threshold (R140, R152). -/
def State.atThreshold (s : State) : Bool := s.timing.threshold.toNat ≤ s.records.length

/-- LOG is latched where the record count has reached the threshold (R140, R152). -/
def State.latchLogAtThreshold (s : State) : State := if s.atThreshold then s.latch .log else s

/-- A new record at the tail: it takes the next sequence number, closes the newest before it, is opened where
its class and the coalescing interval allow, and latches LOG by the threshold (R135, R138, R140). -/
def State.pushRecord (e : Event) (first last : Time) (s : State) : State :=
  State.latchLogAtThreshold
    { s with
      records := s.records ++
        [{ seq := s.nextSeq, firstTime := first, lastTime := last, repeatCount := 1, event := e }]
      nextSeq := s.nextSeq + 1
      openUntil :=
        if e.kind.class == .access && s.timing.coalescing != 0 then
          some (after last s.timing.coalescing.toNat)
        else none }

/-- An event coalesces: the newest record takes it, and its closing time moves on, unless its repeat count has
reached 255 and it is closed (R138, R139). -/
def State.coalesceNewest (e : Event) (s : State) : State :=
  let records := mapLast (fun r => r.coalesce e s.timeBase) s.records
  { s with
    records := records
    openUntil :=
      if records.getLast?.any (fun r => r.repeatCount < 255) then
        some (after s.timeBase s.timing.coalescing.toNat)
      else none }

/-- An event is lost: it is counted, its time is kept and LOST is latched (R141). -/
def State.loseEvent (s : State) : State :=
  State.latch .lost
    { s with
      lost := min (s.lost + 1) lostMax
      latestLoss := some s.timeBase
      firstLoss := if s.lost = 0 then some s.timeBase else s.firstLoss }

/-- The log takes an append request made now: it coalesces, becomes a record, or is lost (R137). -/
def State.appendEvent (e : Event) (s : State) : State :=
  if s.coalesces e then s.coalesceNewest e
  else if s.records.length < logCapacity then s.pushRecord e s.timeBase s.timeBase
  else s.loseEvent

/-- A TAKE_EVENT names the head: the taking mark is set, and the head is closed if it is the open newest
record (R142). -/
def State.nameHead (s : State) : State :=
  { s with
    taking := true
    openUntil := if s.records.length = 1 then none else s.openUntil }

/-- The OVERFLOW record is made where events were lost, and the losses are reported (R143). It closes the record that
was newest before it, so an event that comes together with the removal, and would have coalesced into that record, is
lost when the removal is taken first; row 3 of Table 8-6 has it coalesce in either order. DESIGN CHOICE (log entry 23):
the model follows R143. -/
def State.reportLosses (s : State) : State :=
  if s.lost = 0 then s
  else
    State.pushRecord { kind := .overflow, count := some (BitVec.ofNat 16 s.lost) }
      (s.firstLoss.getD 0) (s.latestLoss.getD 0)
      { s with lost := 0, firstLoss := none, latestLoss := none }

/-- The removal event of a TAKE_EVENT: the named record leaves from the head, and a loss is reported (R143). -/
def State.removeHead (s : State) : State :=
  State.reportLosses { s with records := s.records.drop 1, taking := false }

end Sys2Proof.Machine
end

