-- ==== Sys2Proof/Machine/Groups.lean ====
section
/-! DEFINITION. The group controller (chapter 6): open, close, freeze and the expiry of a window. A request of a
matcher carries the matcher's index. -/

namespace Sys2Proof.Machine

/-- An open request with a duration in milliseconds (R105). -/
def State.openGroup (g : GroupIndex) (duration : BitVec 16) (matcher : Option MatcherIndex) (s : State) : State :=
  let opened : Group := .opened (afterMs s.timeBase duration.toNat)
  match s.group g with
  | .closed =>
    State.appendEvent
      { kind := .windowOpened, matcher := matcher, group := some g, count := some duration }
      (s.setGroup g opened)
  | .opened expiry =>
    State.appendEvent
      { kind := .windowOpened, reason := some .extended, matcher := matcher, group := some g,
        count := some duration }
      (if remaining s.timeBase expiry < duration.toNat * 1000 then s.setGroup g opened else s)
  | .frozen =>
    State.appendEvent
      { kind := .windowRefused, matcher := matcher, group := some g, count := some duration } s

/-- A close request (R106). -/
def State.closeGroup (g : GroupIndex) (s : State) : State :=
  match s.group g with
  | .opened _ =>
    State.appendEvent { kind := .windowClosed, reason := some .command, group := some g } (s.setGroup g .closed)
  | .closed => s
  | .frozen => s

/-- A freeze request (R107). -/
def State.freezeGroup (g : GroupIndex) (matcher : Option MatcherIndex) (s : State) : State :=
  match s.group g with
  | .frozen => s
  | .closed =>
    State.appendEvent { kind := .groupFrozen, matcher := matcher, group := some g } (s.setGroup g .frozen)
  | .opened _ =>
    State.appendEvent { kind := .groupFrozen, matcher := matcher, group := some g } (s.setGroup g .frozen)

/-- The window of a group expires now: it is OPEN and the time base equals its expiry time (R103, R108). -/
def State.windowDue (g : GroupIndex) (s : State) : Bool :=
  match s.group g with
  | .opened expiry => expiry == s.timeBase
  | .closed => false
  | .frozen => false

/-- The expiry of a window (R108). -/
def State.expireWindow (g : GroupIndex) (s : State) : State :=
  if s.windowDue g then
    State.appendEvent { kind := .windowClosed, reason := some .expired, group := some g } (s.setGroup g .closed)
  else s

/-- Every OPEN group is closed without event, as at a line reset (R113). -/
def closeOpenGroups (groups : Vector Group 4) : Vector Group 4 :=
  groups.map (fun g =>
    match g with
    | .opened _ => .closed
    | .closed => .closed
    | .frozen => .frozen)

end Sys2Proof.Machine
end

