-- ==== Sys2Proof/Machine/Operands.lean ====
section
/-! DEFINITION. The operands of an access: lane masks, sizes and alignment (spec/00_scope.md 7.3, R5, R23)
and the element geometry of a word (R3, R4, Table 1-2). -/

namespace Sys2Proof.Machine

/-! ### Lane masks -/

/-- The size of a legal lane mask: its run length (spec/00_scope.md 7.3). -/
inductive AccessSize where
  | byte
  | half
  | word
deriving DecidableEq, Repr

/-- The size of a lane mask, none when the mask is not a legal run (Table 2-4). -/
def laneSize (lanes : Lanes) : Option AccessSize :=
  if lanes = 0b0001 ∨ lanes = 0b0010 ∨ lanes = 0b0100 ∨ lanes = 0b1000 then some .byte
  else if lanes = 0b0011 ∨ lanes = 0b0110 ∨ lanes = 0b1100 then some .half
  else if lanes = 0b1111 then some .word
  else none

/-- Whether a lane mask is one of the eight legal runs (R23). -/
def legalLanes (lanes : Lanes) : Bool := (laneSize lanes).isSome

/-- Whether a legal run is naturally aligned: every one but the half on lanes 1–2 (R5). -/
def naturalLanes (lanes : Lanes) : Bool := lanes != 0b0110

/-- Byte `l` of a word. -/
def byteOf (w : Word) (l : Fin 4) : Byte := w.extractLsb' (8 * l.val) 8

/-- The 32-bit mask of the named lanes: eight ones in each. -/
def laneBits (lanes : Lanes) : Word :=
  let b (l : Nat) : Byte := if lanes.getLsbD l then 0xFF else 0
  b 3 ++ b 2 ++ b 1 ++ b 0

/-- Data with every byte outside the named lanes zero (R28, R35). -/
def maskLanes (lanes : Lanes) (data : Word) : Word := data &&& laneBits lanes

/-- The word that has the written bytes in the named lanes and the old bytes in the others (R41). -/
def mergeLanes (lanes : Lanes) (data old : Word) : Word :=
  (data &&& laneBits lanes) ||| (old &&& ~~~ laneBits lanes)

/-! ### Elements -/

/-- The width of an element in bits (R3). -/
def ElementWidth.bits : ElementWidth → Nat
  | .w8 => 8
  | .w16 => 16
  | .w32 => 32

/-- The lanes of an element (R3). -/
def ElementWidth.lanes (w : ElementWidth) : Nat := w.bits / 8

/-- The elements of a word, in ascending order (R3). -/
def ElementWidth.elements (w : ElementWidth) : List Nat := List.range (32 / w.bits)

/-- The lanes that element `k` covers (R3). -/
def elementLanes (w : ElementWidth) (k : Nat) : List Nat :=
  (List.range w.lanes).map (fun j => k * w.lanes + j)

/-- Element `k` is touched: at least one of its lanes is written (R4). -/
def touches (w : ElementWidth) (lanes : Lanes) (k : Nat) : Bool :=
  (elementLanes w k).any (fun l => lanes.getLsbD l)

/-- Element `k` is whole: all of its lanes are written (R4). -/
def whole (w : ElementWidth) (lanes : Lanes) (k : Nat) : Bool :=
  (elementLanes w k).all (fun l => lanes.getLsbD l)

/-- The touched elements, in ascending order. -/
def touchedElements (w : ElementWidth) (lanes : Lanes) : List Nat :=
  w.elements.filter (touches w lanes)

/-- A write touches a partial element (R4). -/
def touchesPartial (w : ElementWidth) (lanes : Lanes) : Bool :=
  (touchedElements w lanes).any (fun k => !whole w lanes k)

/-- The number formed by the lanes of element `k`, before its sign is read (R3). -/
def elementRaw (w : ElementWidth) (word : Word) (k : Nat) : Nat :=
  word.toNat / 2 ^ (w.bits * k) % 2 ^ w.bits

/-- A number of `n` bits read as two's complement when `signed`, else as unsigned (R3). -/
def readSigned (signed : Bool) (n : Nat) (raw : Nat) : Int :=
  if signed && 2 ^ (n - 1) ≤ raw then (raw : Int) - 2 ^ n else raw

/-- The value of element `k` of a word (R3). -/
def elementValue (w : ElementWidth) (signed : Bool) (word : Word) (k : Nat) : Int :=
  readSigned signed w.bits (elementRaw w word k)

/-- A 32-bit parameter read under a signedness (R8). -/
def paramValue (signed : Bool) (p : Word) : Int := readSigned signed 32 p.toNat

/-- The least value of an element (R3). -/
def elementMin (w : ElementWidth) (signed : Bool) : Int :=
  if signed then -(2 ^ (w.bits - 1)) else 0

/-- The greatest value of an element (R3). -/
def elementMax (w : ElementWidth) (signed : Bool) : Int :=
  if signed then 2 ^ (w.bits - 1) - 1 else 2 ^ w.bits - 1

/-- A value lies in the element range (R3). -/
def inElementRange (w : ElementWidth) (signed : Bool) (v : Int) : Bool :=
  elementMin w signed ≤ v && v ≤ elementMax w signed

end Sys2Proof.Machine
end

