-- ==== Sys2Proof/Machine/Matchers.lean ====
section
/-! DEFINITION. Sequence matchers and the reset output (chapter 7), and the taking of the requests that several
blocks make at one event. -/

namespace Sys2Proof.Machine

/-- A completion notice (R119). -/
structure Notice where
  kind : AccessKind
  region : RegionIndex
  lanes : Lanes
  data : Word
deriving DecidableEq, Repr

/-- A step matches a completion notice (R120). -/
def SeqStep.matchesNotice (st : SeqStep) (n : Notice) : Bool :=
  st.kind == n.kind && st.region == n.region
    && (List.finRange 4).all (fun l =>
      byteOf st.mask l == 0
        || (n.lanes.getLsbD l.val && (byteOf n.data l &&& byteOf st.mask l) == (byteOf st.value l &&& byteOf st.mask l)))

/-- A completion notice is relevant to a matcher (R121). -/
def Matcher.relevant (m : Matcher) (n : Notice) : Bool :=
  m.defn.steps.any (fun st => st.kind == n.kind && st.region == n.region)

/-- A refusal notice is relevant to a matcher (R121). -/
def Matcher.relevantRefusal (m : Matcher) (region : RegionIndex) : Bool :=
  m.defn.steps.any (fun st => st.region == region)

/-- The matcher waiting for its first step. -/
def Matcher.restart (m : Matcher) : Matcher := { m with progress := 0, deadline := none }

/-- The expected step matches the notice: progress rises with a fresh deadline, or the matcher completes
(R122, R126). The flag tells of completion. -/
def Matcher.advance (m : Matcher) (now : Time) : Matcher × Bool :=
  if m.progress + 1 < m.defn.steps.length then
    ({ m with progress := m.progress + 1, deadline := some (afterMs now m.defn.gap.toNat) }, false)
  else (m.restart, true)

/-- The step the matcher expects matches the notice. -/
def Matcher.expects (m : Matcher) (n : Notice) : Bool :=
  (m.defn.steps[m.progress]?).any (fun st => st.matchesNotice n)

/-- What a matcher does with a completion notice: its new state, the progress it lapsed from if the sequence
broke, and whether it completed (R121 to R123). -/
def Matcher.takeCompletion (m : Matcher) (n : Notice) (now : Time) : Matcher × Option Nat × Bool :=
  if !m.relevant n then (m, none, false)
  else if m.expects n then
    let (m', completed) := m.advance now
    (m', none, completed)
  else
    let lapsed := if m.progress = 0 then none else some m.progress
    let fresh := if m.progress = 0 then m else m.restart
    if fresh.expects n then
      let (m', completed) := fresh.advance now
      (m', lapsed, completed)
    else (fresh, lapsed, false)

/-- A request that a block makes at an event, to be taken in an order the spec may leave open. -/
inductive Request where
  | append (e : Event)
  | openGroup (g : GroupIndex) (duration : BitVec 16) (m : MatcherIndex)
  | freezeGroup (g : GroupIndex) (m : MatcherIndex)
  | startPulse
  | refusalNotice (m : MatcherIndex) (region : RegionIndex)
deriving DecidableEq, Repr

/-- The event of a broken or timed-out sequence (Table 7-6). -/
def lapsedEvent (m : MatcherIndex) (reason : Reason) (region : Option RegionIndex) (progress : Nat) : Event :=
  { kind := .sequenceLapsed, reason := some reason, region := region, matcher := some m,
    count := some (BitVec.ofNat 16 progress) }

/-- The event of a completed sequence (Table 7-6). -/
def doneEvent (m : MatcherIndex) (region : RegionIndex) (steps : Nat) : Event :=
  { kind := .sequenceDone, region := some region, matcher := some m, count := some (BitVec.ofNat 16 steps) }

/-- The requests of a matcher's action (Table 7-5). -/
def SeqAction.requests (m : MatcherIndex) : SeqAction → List Request
  | .noteOnly => []
  | .resetPulse => [.startPulse]
  | .openWindow g d => [.openGroup g d m]
  | .freezeGroup g => [.freezeGroup g m]

/-- The requests a matcher makes at a completion notice, in its order: the lapse, then SEQUENCE_DONE, then its
action (R123, R126). -/
def completionRequests (i : MatcherIndex) (m : Matcher) (n : Notice) (lapsed : Option Nat) (completed : Bool) :
    List Request :=
  (match lapsed with
    | some p => [.append (lapsedEvent i .broken (some n.region) p)]
    | none => [])
  ++ (if completed then .append (doneEvent i n.region m.defn.steps.length) :: m.defn.action.requests i else [])

/-- A refusal notice reaches a matcher: a relevant one breaks a sequence in progress (R124). -/
def State.takeRefusal (i : MatcherIndex) (region : RegionIndex) (s : State) : State :=
  match s.matcher i with
  | none => s
  | some m =>
    if m.relevantRefusal region && m.progress != 0 then
      State.appendEvent (lapsedEvent i .broken (some region) m.progress) (s.setMatcher i (some m.restart))
    else s

/-- The start or restart of the reset pulse (R130). -/
def State.startPulse (s : State) : State :=
  { s with pulse := some (afterMs s.timeBase s.timing.pulseLength.toNat) }

/-- One request is taken. -/
def State.perform (s : State) : Request → State
  | .append e => s.appendEvent e
  | .openGroup g d m => s.openGroup g d (some m)
  | .freezeGroup g m => s.freezeGroup g (some m)
  | .startPulse => s.startPulse
  | .refusalNotice m region => s.takeRefusal m region

/-- The requests that several blocks make at one event are taken one at a time, each block's own in its order,
those of different blocks in an order that is left free (R137, R119, R126; log entry 3). -/
def State.performAll (chains : List (List Request)) (s : State) : State :=
  let (requests, n) := interleave chains s.choices
  requests.foldl State.perform { s with choices := n }

/-- The refusal notices of one event that would break a sequence in progress, one block each. A notice that is
not relevant, or finds progress 0, has no effect (R124). -/
def State.refusalChains (s : State) (regions : List RegionIndex) : List (List Request) :=
  (List.finRange 4).flatMap (fun i =>
    match s.matcher i with
    | none => []
    | some m =>
      if m.progress = 0 then []
      else (regions.filter m.relevantRefusal).map (fun r => [Request.refusalNotice i r]))

/-- What each matcher does with a completion notice. -/
def State.reactions (s : State) (n : Notice) : List (MatcherIndex × Matcher × Option Nat × Bool) :=
  (List.finRange 4).filterMap (fun i =>
    (s.matcher i).map (fun m => (i, m.takeCompletion n s.timeBase)))

/-- A completion notice is given to all four matchers (R119): each moves, a completion latches SEQUENCE (R126),
and their requests are taken. -/
def State.giveCompletion (n : Notice) (s : State) : State :=
  let rs := s.reactions n
  let moved := rs.foldl (fun s r => s.setMatcher r.1 (some r.2.1)) s
  let latched := if rs.any (fun r => r.2.2.2) then moved.latch .sequence else moved
  latched.performAll (rs.map (fun r => completionRequests r.1 r.2.1 n r.2.2.1 r.2.2.2))

/-- The deadline of a matcher expires now (R125). -/
def State.deadlineDue (i : MatcherIndex) (s : State) : Bool :=
  (s.matcher i).any (fun m => m.deadline == some s.timeBase)

/-- The expiry of a matcher's deadline (R125). -/
def State.expireDeadline (i : MatcherIndex) (s : State) : State :=
  match s.matcher i with
  | none => s
  | some m =>
    if m.deadline == some s.timeBase then
      State.appendEvent (lapsedEvent i .timeout none m.progress) (s.setMatcher i (some m.restart))
    else s

/-- Every defined matcher goes back to its first step without event, as at a line reset (R129). -/
def restartMatchers (ms : Vector (Option Matcher) 4) : Vector (Option Matcher) 4 :=
  ms.map (Option.map Matcher.restart)

/-- The pulse ends now (R131). -/
def State.pulseDue (s : State) : Bool := s.pulse == some s.timeBase

end Sys2Proof.Machine
end

