-- ==== Sys2Proof/Machine/Verdict.lean ====
section
/-! DEFINITION. Write verdicts (chapter 3): the need for a verify read, and the evaluation of each policy. -/

namespace Sys2Proof.Machine

/-- The verdict on a write (R36): pass, or refuse with a reason of Table 3-1. -/
inductive Verdict where
  | pass
  | refuse (reason : Reason)
deriving DecidableEq, Repr

/-- BOUNDED on one element: its new value lies between the bounds, all read under the signedness (R44). -/
def boundedElement (w : ElementWidth) (signed : Bool) (lo hi new : Word) (k : Nat) : Option Reason :=
  let v := elementValue w signed new k
  if paramValue signed lo ≤ v ∧ v ≤ paramValue signed hi then none else some .outOfRange

/-- The step from an old to a new value around an element's range (R46). -/
def stepOf (w : ElementWidth) (old new : Int) : Int := (new - old).bmod (2 ^ w.bits)

/-- STEPPED on one element: the step check, then under WRAP_FORBID the wrap check (R47, R48). -/
def steppedElement (w : ElementWidth) (signed : Bool) (lo hi : Word) (wrapAllow : Bool) (old new : Word)
    (k : Nat) : Option Reason :=
  let o := elementValue w signed old k
  let d := stepOf w o (elementValue w signed new k)
  if ¬ (paramValue true lo ≤ d ∧ d ≤ paramValue true hi) then some .stepOut
  else if !wrapAllow && !inElementRange w signed (o + d) then some .stepWrap
  else none

/-- The verdict over the touched elements: the reason of the lowest-numbered one that fails (R53). -/
def verdictOver (elements : List Nat) (check : Nat → Option Reason) : Verdict :=
  match elements.findSome? check with
  | none => .pass
  | some r => .refuse r

/-- Whether the gate of a GATED policy is met by the verify word (R50). -/
def gateMet (nonzero : Bool) (verifyWord : Word) : Bool :=
  if nonzero then verifyWord != 0 else verifyWord == 0

/-- The verdict on a write from its snapshot, lanes, data and verify word (R36, R43 to R53). Where the policy
and lanes need no verify read, the verify word has no part in it. -/
def judge (snap : Snapshot) (lanes : Lanes) (data verifyWord : Word) : Verdict :=
  let new := mergeLanes lanes data verifyWord
  match snap.policy with
  | .groupFrozen => .refuse .groupFrozen
  | .entry .free => .pass
  | .entry .frozen => .refuse .frozen
  | .entry (.bounded lo hi) =>
    verdictOver (touchedElements snap.width lanes) (boundedElement snap.width snap.signed lo hi new)
  | .entry (.stepped lo hi wrapAllow) =>
    verdictOver (touchedElements snap.width lanes)
      (steppedElement snap.width snap.signed lo hi wrapAllow verifyWord new)
  | .entry (.gated _ nonzero) => if gateMet nonzero verifyWord then .pass else .refuse .gateClosed

/-- Whether a write needs a verify read (Table 3-2). -/
def needsVerifyRead (snap : Snapshot) (lanes : Lanes) : Bool :=
  match snap.policy with
  | .groupFrozen => false
  | .entry .free => false
  | .entry .frozen => false
  | .entry (.bounded _ _) => touchesPartial snap.width lanes
  | .entry (.stepped _ _ _) => true
  | .entry (.gated _ _) => true

/-- The verdict reached at arrival, none where it needs a verify read (R31). -/
def arrivalVerdict (snap : Snapshot) (lanes : Lanes) (data : Word) : Option Verdict :=
  if needsVerifyRead snap lanes then none else some (judge snap lanes data 0)

/-- The companion word of a GATED policy (R30). -/
def SelectedPolicy.companion : SelectedPolicy → Option WordAddr
  | .entry (.gated p1 _) => some (wordOfByteAddr p1)
  | _ => none

/-- The touched words of a write: the target, and the companion when that differs from it (R30). -/
def touchedWords (target : WordAddr) (companion : Option WordAddr) : List WordAddr :=
  match companion with
  | some c => if c = target then [target] else [target, c]
  | none => [target]

end Sys2Proof.Machine
end

