-- ==== Sys2Proof/Machine/Regions.lean ====
section
/-! DEFINITION. The region table (chapter 1): legality of an entry, lookup, shape, and the policy a group's
state selects. -/

namespace Sys2Proof.Machine

/-- The span of an entry holds a word (R2). -/
def Region.contains (r : Region) (w : WordAddr) : Bool :=
  let first := r.base.toNat / 4
  first ≤ w.toNat && w.toNat < first + r.count.toNat

/-- The governing entry of a word with its index: the present entry of lowest index whose span contains the
word (R15). -/
def State.governing (s : State) (w : WordAddr) : Option (RegionIndex × Region) :=
  (List.finRange 32).findSome? (fun i =>
    match s.region i with
    | some r => if r.contains w then some (i, r) else none
    | none => none)

/-- A size is among the allowed sizes (R5). -/
def Region.allows (r : Region) : AccessSize → Bool
  | .byte => r.allowByte
  | .half => r.allowHalf
  | .word => r.allowWord

/-- The shape fault of an access, size first (R26). -/
def Region.shapeFault (r : Region) (lanes : Lanes) : Option Reason :=
  match laneSize lanes with
  | none => some .size
  | some size =>
    if !r.allows size then some .size
    else if r.natural && !naturalLanes lanes then some .align
    else none

/-- The policy that governs a write to an entry (R11, R29, Table 6-1). -/
def State.selectPolicy (s : State) (r : Region) : SelectedPolicy :=
  match r.group with
  | none => .entry r.primary
  | some g =>
    match s.group g with
    | .closed => .entry r.primary
    | .opened _ => .entry (r.alternate.getD r.primary)
    | .frozen => .groupFrozen

/-- The snapshot of a write classified against an entry (R18, R30). -/
def State.snapshot (s : State) (i : RegionIndex) (r : Region) : Snapshot where
  region := i
  policy := s.selectPolicy r
  width := r.width
  signed := r.signed
  violation := r.violation
  writeNote := r.writeNote

/-- The parameters of a policy are legal for an entry's element geometry (R8 to R10, Table 1-5). -/
def Policy.legal (w : ElementWidth) (signed : Bool) : Policy → Bool
  | .free => true
  | .frozen => true
  | .bounded lo hi =>
    inElementRange w signed (paramValue signed lo) && inElementRange w signed (paramValue signed hi)
      && paramValue signed lo ≤ paramValue signed hi
  | .stepped lo hi _ =>
    inElementRange w true (paramValue true lo) && inElementRange w true (paramValue true hi)
      && paramValue true lo ≤ paramValue true hi
  | .gated companion _ => companion.extractLsb' 0 2 == 0

/-- An entry that may be loaded: none of the conditions of Table 1-5 that concern its fields. -/
def Region.legal (r : Region) : Bool :=
  r.base.extractLsb' 0 2 == 0
    && r.count != 0
    && r.base.toNat / 4 + r.count.toNat ≤ 0x40000000
    && (r.allowByte || r.allowHalf || r.allowWord)
    && r.primary.legal r.width r.signed
    && (r.alternate.isNone || r.group.isSome)
    && (r.alternate.all (Policy.legal r.width r.signed))

end Sys2Proof.Machine
end

