-- ==== Sys2Proof/Machine/Table.lean ====
section
/-! DEFINITION. The transaction table (chapter 4): entry, per-word order, the arbiter, and the forming of
responses. -/

namespace Sys2Proof.Machine

/-! ### Word order (R63 to R66) -/

/-- The word an ORPHANED tag blocks (R65). -/
def TagEntry.orphanWord? : TagEntry → Option WordAddr
  | .orphaned o => some o.word
  | .active _ => none
  | .free => none

/-- The words that orphaned tags block. -/
def State.orphanWords (s : State) : List WordAddr := s.mtags.toList.filterMap TagEntry.orphanWord?

/-- One of a record's touched words is among the words. -/
def blockedBy (words touched : List WordAddr) : Bool := touched.any (fun w => words.contains w)

/-- Every WAITING record that R63 no longer holds becomes READY (R66). `held` are the words of orphaned tags and
of earlier records. -/
def promoteFrom (held : List WordAddr) : List Txn → List Txn
  | [] => []
  | t :: rest =>
    (if t.state = .waiting ∧ blockedBy held t.touched = false then { t with state := .ready } else t)
      :: promoteFrom (held ++ t.touched) rest

/-- WAITING records clear of earlier traffic become READY (R66). -/
def State.promote (s : State) : State := { s with table := promoteFrom s.orphanWords s.table }

/-! ### The arbiter (R68 to R71) -/

/-- A record is a candidate (R69). -/
def State.isCandidate (s : State) (t : Txn) : Bool :=
  match t.state with
  | .issuePending => true
  | .ready => !t.needsVerify || s.slotsInUse < slotCount
  | .waiting => false
  | .verifying => false
  | .issued => false
  | .complete => false

/-- The oldest candidate (R69). -/
def State.oldestCandidate (s : State) : Option Txn := s.table.find? s.isCandidate

/-- The FREE M-tag with the lowest number (R69). -/
def State.lowestFreeTag (s : State) : Option MTag :=
  (List.finRange 8).find? (fun m => s.tag m == .free)

/-- The purpose of a forward (R71). -/
def forwardPurpose : AccessKind → Purpose
  | .read => .forwardRead
  | .write => .forwardWrite

/-- The grant of a verify read: a hold slot and an M-tag together, and the read is put on offer (R70). -/
def State.grantVerify (t : Txn) (m : MTag) (s : State) : State :=
  let entry : ActiveTag :=
    { purpose := .verify, word := t.companion.getD t.word, owner := t.htag, taken := none }
  let s := s.setTag m (.active entry)
  let s := s.updateTxn t.htag (fun t => { t with state := .verifying, holdSlot := true, mtag := some m })
  { s with onOffer := some m }

/-- The grant of a forward: an M-tag, and the master's own request is put on offer (R71). -/
def State.grantForward (t : Txn) (m : MTag) (s : State) : State :=
  let entry : ActiveTag := { purpose := forwardPurpose t.kind, word := t.word, owner := t.htag, taken := none }
  let s := s.setTag m (.active entry)
  let s := s.updateTxn t.htag (fun t => { t with state := .issued, mtag := some m })
  { s with onOffer := some m }

/-- The grant of an M-tag to a candidate (R70, R71). -/
def State.grantTo (t : Txn) (m : MTag) (s : State) : State :=
  if t.state = .ready ∧ t.needsVerify then s.grantVerify t m else s.grantForward t m

/-- The arbiter may grant: the port is READY and nothing is on offer (R68). -/
def State.mayGrant (s : State) : Bool := s.port == .ready && s.onOffer.isNone

/-- The arbiter grants where the conditions of R68 hold: the lowest FREE tag to the oldest candidate (R69). -/
def State.arbitrate (s : State) : State :=
  if s.mayGrant then
    match s.lowestFreeTag, s.oldestCandidate with
    | some m, some t => s.grantTo t m
    | _, _ => s
  else s

/-- An orphaned tag has been freed at the event at which records become READY. Either may be taken first (R69):
the grant goes to the oldest candidate before the change or after it, by a free choice where the two differ
(log entry 4). -/
def State.promoteAndArbitrate (s : State) : State :=
  let s' := s.promote
  match s.oldestCandidate, s'.oldestCandidate, s'.lowestFreeTag with
  | some before, some now, some m =>
    if s'.mayGrant && before.htag != now.htag then
      let counted := { s' with choices := s'.choices + 1 }
      if Config.choice s'.choices % 2 = 0 then counted.grantTo before m else counted.grantTo now m
    else s'.arbitrate
  | _, _, _ => s'.arbitrate

/-! ### Entry (R61) -/

/-- The data a record keeps: a write's own, and zero for a read (Table 4-1; log entry 17). -/
def recordData (req : HostRequest) : Word :=
  match req.kind with
  | .write => req.data
  | .read => 0

/-- The words that hold back a record entering now: those of the records in the table and of the orphans (R63). -/
def State.heldWords (s : State) : List WordAddr := s.orphanWords ++ s.table.flatMap (·.touched)

/-- The record a request makes (R61). -/
def State.newTxn (s : State) (req : HostRequest) (c : Classification) (needsVerify : Bool)
    (companion : Option WordAddr) (passNote : Option Reason) : Txn :=
  let touched := touchedWords req.word companion
  { htag := req.tag
    kind := req.kind
    word := req.word
    lanes := req.lanes
    data := recordData req
    classification := c
    needsVerify := needsVerify
    touched := touched
    companion := companion
    state := if blockedBy s.heldWords touched then .waiting else .ready
    holdSlot := false
    mtag := none
    verifyWord := none
    passNote := passNote
    response := none }

/-- A request enters the table at its tail, and the arbiter looks (R61, R68). -/
def State.enter (req : HostRequest) (c : Classification) (needsVerify : Bool) (companion : Option WordAddr)
    (passNote : Option Reason) (s : State) : State :=
  State.arbitrate { s with table := s.table ++ [s.newTxn req c needsVerify companion passNote] }

/-! ### Responses (R72 to R78) -/

/-- A record's response is formed: it moves to COMPLETE and joins the delivery queue (R72 to R75, R77). -/
def State.complete (h : HTag) (status : HostStatus) (data : Word) (s : State) : State :=
  let s := s.updateTxn h
    (fun t => { t with state := .complete, mtag := none, response := some (status, data) })
  { s with deliveries := s.deliveries ++ [h] }

/-- The record whose response is at the head of the delivery queue leaves the table (R78). -/
def State.deliver (s : State) : State :=
  match s.deliveries with
  | [] => s
  | h :: rest =>
    State.arbitrate (State.promote
      { s with deliveries := rest, table := s.table.filter (fun t => t.htag != h) })

/-- Every record with an ACTIVE tag is answered FAULT (R76). -/
def abortTxn (t : Txn) : Txn :=
  if t.mtag.isSome then { t with state := .complete, mtag := none, response := some (.fault, 0) } else t

/-- The regions of the refusal notices that an M-port reset gives: those of the records moved from VERIFYING
(R59, R97). -/
def abortedRegions (table : List Txn) : List RegionIndex :=
  (table.filter (fun t => t.mtag.isSome && t.state == .verifying)).filterMap (·.region?)

end Sys2Proof.Machine
end

