-- ==== Sys2Proof/Machine/Images.lean ====
section
/-! DEFINITION. The byte layouts of the S-link (10.6): region, sequence, timing, status and event record images.
Multi-byte fields are little-endian. -/

namespace Sys2Proof.Machine

/-! ### Bytes -/

/-- Byte `i` of an image. -/
def byteAt (l : List Byte) (i : Nat) : Byte := l.getD i 0

/-- A 16-bit field that begins at byte `i`. -/
def read16 (l : List Byte) (i : Nat) : BitVec 16 := byteAt l (i + 1) ++ byteAt l i

/-- A 24-bit field that begins at byte `i`. -/
def read24 (l : List Byte) (i : Nat) : BitVec 24 := byteAt l (i + 2) ++ byteAt l (i + 1) ++ byteAt l i

/-- A 32-bit field that begins at byte `i`. -/
def read32 (l : List Byte) (i : Nat) : BitVec 32 :=
  byteAt l (i + 3) ++ byteAt l (i + 2) ++ byteAt l (i + 1) ++ byteAt l i

/-- The bytes of a 16-bit field. -/
def bytes16 (x : BitVec 16) : List Byte := [x.extractLsb' 0 8, x.extractLsb' 8 8]

/-- The bytes of a 24-bit field. -/
def bytes24 (x : BitVec 24) : List Byte := [x.extractLsb' 0 8, x.extractLsb' 8 8, x.extractLsb' 16 8]

/-- The bytes of a 32-bit field. -/
def bytes32 (x : BitVec 32) : List Byte :=
  [x.extractLsb' 0 8, x.extractLsb' 8 8, x.extractLsb' 16 8, x.extractLsb' 24 8]

/-- A flag as one bit. -/
def bit (b : Bool) : BitVec 1 := BitVec.ofBool b

/-! ### Codes (Table 10-5) -/

/-- The code of an element width. -/
def ElementWidth.code : ElementWidth → BitVec 2
  | .w8 => 0
  | .w16 => 1
  | .w32 => 2

/-- The element width a code names. -/
def ElementWidth.ofCode? (c : BitVec 2) : Option ElementWidth :=
  [ElementWidth.w8, .w16, .w32].find? (fun x => x.code == c)

/-- The code of a read action. -/
def ReadAction.code : ReadAction → BitVec 2
  | .pass => 0
  | .note => 1
  | .substitute => 2
  | .refuse => 3

/-- The read action a code names. -/
def ReadAction.ofCode? (c : BitVec 2) : Option ReadAction :=
  [ReadAction.pass, .note, .substitute, .refuse].find? (fun x => x.code == c)

/-- The code of a violation action. -/
def ViolationAction.code : ViolationAction → BitVec 2
  | .quiet => 0
  | .error => 1
  | .note => 2

/-- The violation action a code names. -/
def ViolationAction.ofCode? (c : BitVec 2) : Option ViolationAction :=
  [ViolationAction.quiet, .error, .note].find? (fun x => x.code == c)

/-- The kind code of a policy. -/
def Policy.kindCode : Policy → BitVec 3
  | .free => 0
  | .frozen => 1
  | .bounded _ _ => 2
  | .stepped _ _ _ => 3
  | .gated _ _ => 4

/-- The flag of a policy. -/
def Policy.flag : Policy → Bool
  | .free => false
  | .frozen => false
  | .bounded _ _ => false
  | .stepped _ _ wrapAllow => wrapAllow
  | .gated _ nonzero => nonzero

/-- The parameter P1 of a policy. -/
def Policy.p1 : Policy → Word
  | .free => 0
  | .frozen => 0
  | .bounded lo _ => lo
  | .stepped lo _ _ => lo
  | .gated companion _ => companion

/-- The parameter P2 of a policy. -/
def Policy.p2 : Policy → Word
  | .free => 0
  | .frozen => 0
  | .bounded _ hi => hi
  | .stepped _ hi _ => hi
  | .gated _ _ => 0

/-- The policy of a kind code, a flag and two parameters, none where the kind has no code or its parameters are
not zero where Table 1-4 says 0. -/
def Policy.ofFields? (kind : BitVec 3) (flag : Bool) (p1 p2 : Word) : Option Policy :=
  if kind = 0 then (if p1 = 0 ∧ p2 = 0 ∧ flag = false then some .free else none)
  else if kind = 1 then (if p1 = 0 ∧ p2 = 0 ∧ flag = false then some .frozen else none)
  else if kind = 2 then (if flag = false then some (.bounded p1 p2) else none)
  else if kind = 3 then some (.stepped p1 p2 flag)
  else if kind = 4 then (if p2 = 0 then some (.gated p1 flag) else none)
  else none

/-- The code of an access kind, which is that of a step kind. -/
def accessKindCode : AccessKind → BitVec 1
  | .read => 0
  | .write => 1

/-- The code of a group state. -/
def Group.code : Group → BitVec 2
  | .closed => 0
  | .opened _ => 1
  | .frozen => 2

/-- The code of a kind (Table 10-9). -/
def EventKind.code : EventKind → Byte
  | .writeRefused => 0x01
  | .writeNoted => 0x02
  | .readRefused => 0x03
  | .readSubstituted => 0x04
  | .readNoted => 0x05
  | .shapeFault => 0x06
  | .malformed => 0x07
  | .tagClash => 0x08
  | .verifyFault => 0x09
  | .forwardFault => 0x0A
  | .forwardTimeout => 0x0B
  | .lateResponse => 0x0C
  | .mportResetDone => 0x0D
  | .sequenceDone => 0x0E
  | .sequenceLapsed => 0x0F
  | .windowOpened => 0x10
  | .windowClosed => 0x11
  | .windowRefused => 0x12
  | .groupFrozen => 0x13
  | .lineReset => 0x14
  | .overflow => 0x15

/-- The code of a reason (Table 10-9). -/
def Reason.code : Reason → Byte
  | .passing => 0x01
  | .frozen => 0x02
  | .groupFrozen => 0x03
  | .outOfRange => 0x04
  | .stepOut => 0x05
  | .stepWrap => 0x06
  | .gateClosed => 0x07
  | .size => 0x08
  | .align => 0x09
  | .error => 0x0A
  | .timeout => 0x0B
  | .broken => 0x0C
  | .extended => 0x0D
  | .expired => 0x0E
  | .command => 0x0F

/-- The code of a result (Table 10-2). -/
def Result.code : Result → Byte
  | .done => 0x00
  | .empty => 0x01
  | .locked => 0x02
  | .badIndex => 0x03
  | .badField => 0x04
  | .badCommand => 0x05
  | .busy => 0x06
  | .wrongMode => 0x07

/-! ### The region image (Table 10-4) -/

/-- The bytes of a region image. -/
def Region.encode (r : Region) : List Byte :=
  let alt := r.alternate.getD .free
  bytes32 r.base ++ bytes24 r.count
    ++ [bit r.writeNote ++ bit r.allowWord ++ bit r.allowHalf ++ bit r.allowByte ++ bit r.natural ++ bit r.signed
          ++ r.width.code,
        bit r.alternate.isSome ++ BitVec.ofNat 2 (r.group.elim 0 (·.val)) ++ bit r.group.isSome
          ++ r.violation.code ++ r.readAction.code,
        bit alt.flag ++ alt.kindCode ++ bit r.primary.flag ++ r.primary.kindCode,
        0, 0]
    ++ bytes32 r.primary.p1 ++ bytes32 r.primary.p2 ++ bytes32 alt.p1 ++ bytes32 alt.p2 ++ bytes32 r.fill

/-- The group field: bit 4 tells of its presence, and bits 6:5 must be zero where it is absent. -/
def decodeGroup (b : Byte) : Option (Option GroupIndex) :=
  if b.getLsbD 4 then some (some ⟨(b.extractLsb' 5 2).toNat, (b.extractLsb' 5 2).isLt⟩)
  else if b.extractLsb' 5 2 = 0 then some none
  else none

/-- The alternate policy: bit 7 of byte 8 tells of its presence, and its kind, flag and parameters must be zero
where it is absent. -/
def decodeAlternate (present : Bool) (kind : BitVec 3) (flag : Bool) (p1 p2 : Word) : Option (Option Policy) :=
  if present then (Policy.ofFields? kind flag p1 p2).map some
  else if kind = 0 ∧ flag = false ∧ p1 = 0 ∧ p2 = 0 then some none
  else none

/-- The entry a region image holds, none where any condition of Table 1-5 refuses it (R12, R169). -/
def Region.decode? (l : List Byte) : Option Region := do
  let b7 := byteAt l 7
  let b8 := byteAt l 8
  let b9 := byteAt l 9
  let width ← ElementWidth.ofCode? (b7.extractLsb' 0 2)
  let readAction ← ReadAction.ofCode? (b8.extractLsb' 0 2)
  let violation ← ViolationAction.ofCode? (b8.extractLsb' 2 2)
  let group ← decodeGroup b8
  let primary ← Policy.ofFields? (b9.extractLsb' 0 3) (b9.getLsbD 3) (read32 l 12) (read32 l 16)
  let alternate ←
    decodeAlternate (b8.getLsbD 7) (b9.extractLsb' 4 3) (b9.getLsbD 7) (read32 l 20) (read32 l 24)
  let entry : Region :=
    { base := read32 l 0
      count := read24 l 4
      width := width
      signed := b7.getLsbD 2
      natural := b7.getLsbD 3
      allowByte := b7.getLsbD 4
      allowHalf := b7.getLsbD 5
      allowWord := b7.getLsbD 6
      readAction := readAction
      fill := read32 l 28
      violation := violation
      writeNote := b7.getLsbD 7
      primary := primary
      group := group
      alternate := alternate }
  if entry.legal && byteAt l 10 == 0 && byteAt l 11 == 0 then some entry else none

/-! ### The sequence image (Table 10-6a) -/

/-- The number of steps a sequence image has places for. -/
def maxSteps : Nat := 6

/-- The bytes of one step. -/
def SeqStep.encode (st : SeqStep) : List Byte :=
  [(accessKindCode st.kind).setWidth 8, BitVec.ofNat 8 st.region.val] ++ bytes32 st.mask ++ bytes32 st.value

/-- The code of an action. -/
def SeqAction.code : SeqAction → Byte
  | .noteOnly => 0
  | .resetPulse => 1
  | .openWindow _ _ => 2
  | .freezeGroup _ => 3

/-- The action group byte. -/
def SeqAction.groupByte : SeqAction → Byte
  | .noteOnly => 0
  | .resetPulse => 0
  | .openWindow g _ => BitVec.ofNat 8 g.val
  | .freezeGroup g => BitVec.ofNat 8 g.val

/-- The action duration. -/
def SeqAction.duration : SeqAction → BitVec 16
  | .noteOnly => 0
  | .resetPulse => 0
  | .openWindow _ d => d
  | .freezeGroup _ => 0

/-- The bytes of a sequence image. -/
def SeqDef.encode (d : SeqDef) : List Byte :=
  [BitVec.ofNat 8 d.steps.length] ++ bytes16 d.gap ++ [d.action.code, d.action.groupByte]
    ++ bytes16 d.action.duration ++ [0]
    ++ d.steps.flatMap SeqStep.encode
    ++ List.replicate (10 * (maxSteps - d.steps.length)) 0

/-- A group byte of 0 to 3. -/
def groupOfByte? (b : Byte) : Option GroupIndex :=
  if h : b.toNat < 4 then some ⟨b.toNat, h⟩ else none

/-- A matcher byte of 0 to 3. -/
def matcherOfByte? (b : Byte) : Option MatcherIndex :=
  if h : b.toNat < 4 then some ⟨b.toNat, h⟩ else none

/-- A region index byte of 0 to 31. -/
def regionOfByte? (b : Byte) : Option RegionIndex :=
  if h : b.toNat < 32 then some ⟨b.toNat, h⟩ else none

/-- The kind a step's kind byte names. -/
def kindOfByte? (b : Byte) : Option AccessKind :=
  if b = 0 then some .read else if b = 1 then some .write else none

/-- The step that begins at byte `i` (R170). -/
def decodeStep (l : List Byte) (i : Nat) : Option SeqStep := do
  let kind ← kindOfByte? (byteAt l i)
  let region ← regionOfByte? (byteAt l (i + 1))
  some { kind := kind, region := region, mask := read32 l (i + 2), value := read32 l (i + 6) }

/-- The action of its code, group byte and duration (R170). -/
def decodeAction (code group : Byte) (duration : BitVec 16) : Option SeqAction :=
  if code = 0 then (if group = 0 ∧ duration = 0 then some .noteOnly else none)
  else if code = 1 then (if group = 0 ∧ duration = 0 then some .resetPulse else none)
  else if code = 2 then
    (if duration = 0 then none else (groupOfByte? group).map (fun g => .openWindow g duration))
  else if code = 3 then
    (if duration = 0 then (groupOfByte? group).map .freezeGroup else none)
  else none

/-- The definition a sequence image holds, none where any condition of Table 7-3 refuses it (R115, R170). -/
def SeqDef.decode? (l : List Byte) : Option SeqDef := do
  let n := (byteAt l 0).toNat
  if n = 0 ∨ maxSteps < n then none
  else if read16 l 1 = 0 then none
  else if byteAt l 7 ≠ 0 then none
  else do
    let action ← decodeAction (byteAt l 3) (byteAt l 4) (read16 l 5)
    let steps ← (List.range n).mapM (fun k => decodeStep l (8 + 10 * k))
    if (List.range (10 * (maxSteps - n))).all (fun k => byteAt l (8 + 10 * n + k) == 0) then
      some { steps := steps, gap := read16 l 1, action := action }
    else none

/-- A definition that an image can hold (Table 7-3). -/
def SeqDef.legal (d : SeqDef) : Bool :=
  1 ≤ d.steps.length && d.steps.length ≤ maxSteps && d.gap != 0
    && match d.action with
      | .openWindow _ duration => duration != 0
      | .noteOnly => true
      | .resetPulse => true
      | .freezeGroup _ => true

/-- The remaining gap of a matcher in milliseconds, rounded up (R118). -/
def Matcher.remainingGap (m : Matcher) (now : Time) : Nat :=
  match m.deadline with
  | none => 0
  | some d => (remaining now d + 999) / 1000

/-- The reply of FETCH_SEQUENCE: image, presence, progress and remaining gap (R118, R170). -/
def sequenceReply (m : Option Matcher) (now : Time) : List Byte :=
  match m with
  | none => List.replicate 72 0
  | some m =>
    m.defn.encode ++ [1, BitVec.ofNat 8 m.progress] ++ bytes16 (BitVec.ofNat 16 (m.remainingGap now))

/-- The reply of FETCH_REGION: presence and image (R17). -/
def regionReply (r : Option Region) : List Byte :=
  match r with
  | none => List.replicate 33 0
  | some r => 1 :: r.encode

/-! ### The timing image (Table 10-6) -/

/-- The byte of an attention mode. -/
def AttnMode.code : AttnMode → Byte
  | .steady => 0
  | .repulse => 1

/-- The bytes of a timing image. -/
def Timing.encode (t : Timing) : List Byte :=
  bytes16 t.verifyLimit ++ bytes16 t.forwardLimit ++ bytes16 t.coalescing
    ++ [t.pulseLength, t.threshold, t.attnMode.code, 0, 0, 0]

/-- The ranges of the timing settings (Table 10-6, R165). -/
def Timing.legal (t : Timing) : Bool :=
  t.verifyLimit != 0 && t.forwardLimit != 0 && t.pulseLength != 0 && t.threshold != 0
    && t.threshold.toNat ≤ 16

/-- The attention mode a byte names. -/
def attnModeOfByte? (b : Byte) : Option AttnMode :=
  if b = 0 then some .steady else if b = 1 then some .repulse else none

/-- The settings a timing image holds, none where R165 refuses it. -/
def Timing.decode? (l : List Byte) : Option Timing := do
  let attnMode ← attnModeOfByte? (byteAt l 8)
  let t : Timing :=
    { verifyLimit := read16 l 0
      forwardLimit := read16 l 2
      coalescing := read16 l 4
      pulseLength := byteAt l 6
      threshold := byteAt l 7
      attnMode := attnMode }
  if t.legal && byteAt l 9 == 0 && byteAt l 10 == 0 && byteAt l 11 == 0 then some t else none

/-! ### Cause sets (R168) -/

/-- The bits of a cause set. -/
def CauseSet.bits (c : CauseSet) : BitVec 4 := bit c.memory ++ bit c.sequence ++ bit c.lost ++ bit c.log

/-- The byte of a cause set. -/
def CauseSet.encode (c : CauseSet) : Byte := (0 : BitVec 4) ++ c.bits

/-- The cause set a byte names, none where bits 4 to 7 are not zero (R168). -/
def CauseSet.decode? (b : Byte) : Option CauseSet :=
  if b.extractLsb' 4 4 = 0 then
    some ⟨b.getLsbD 0, b.getLsbD 1, b.getLsbD 2, b.getLsbD 3⟩
  else none

/-! ### The event record image (Table 10-8) -/

/-- The bytes of an event record image (R171). -/
def Record.encode (r : Record) : List Byte :=
  let e := r.event
  let presence : Byte :=
    bit e.count.isSome ++ bit e.group.isSome ++ bit e.matcher.isSome ++ bit e.reference.isSome
      ++ bit e.attempted.isSome ++ bit e.word.isSome ++ bit e.access.isSome ++ bit e.region.isSome
  let lanes : BitVec 4 := e.access.elim 0 (·.lanes)
  let htag : BitVec 4 := e.access.elim 0 (fun a => BitVec.ofNat 4 a.htag.val)
  let kind : BitVec 1 := e.access.elim 0 (fun a => accessKindCode a.kind)
  bytes16 r.seq ++ [e.kind.code, e.reason.elim 0 Reason.code]
    ++ bytes32 r.firstTime ++ bytes32 r.lastTime
    ++ [BitVec.ofNat 8 r.repeatCount, presence, BitVec.ofNat 8 (e.region.elim 0 (·.val)), lanes ++ htag,
        (0 : BitVec 3) ++ BitVec.ofNat 2 (e.group.elim 0 (·.val)) ++ BitVec.ofNat 2 (e.matcher.elim 0 (·.val))
          ++ kind,
        0]
    ++ bytes16 (e.count.getD 0)
    ++ bytes32 (e.word.elim 0 byteAddr) ++ bytes32 (e.attempted.getD 0) ++ bytes32 (e.reference.getD 0)

end Sys2Proof.Machine
end

