-- ==== Sys2Proof/Machine/Flags.lean ====
section
/-! DEFINITION. The unit's outputs and reported flags, computed from the state that defines them: the lines
ATTN_N, RSTO_N, MRST_N and SDO, what each port offers and accepts, and the status image of READ_STATUS. -/

namespace Sys2Proof.Machine

/-- At least one cause is both latched and unmasked (R151). -/
def State.unmaskedLatched (s : State) : Bool := (s.latches.inter s.mask).any

/-- ATTN_N is asserted (R151, Table 9-3). -/
def State.attnAsserted (s : State) : Bool :=
  s.unmaskedLatched && s.gap.isNone && !s.rstAsserted && !s.powerOn

/-- RSTO_N is asserted: the reset output's timer is running (7.10). -/
def State.rstoAsserted (s : State) : Bool := s.pulse.isSome

/-- The port is RESETTING (R96). -/
def State.mportResetting (s : State) : Bool := s.port != .ready

/-- MRST_N is asserted: during the M-port reset, a line reset and power-on reset (R96, R100, R101). -/
def State.mrstAsserted (s : State) : Bool := s.mportResetting || s.rstAsserted || s.powerOn

/-- The M-port response channel accepts responses (R84). -/
def State.mportAccepts (s : State) : Bool := !s.powerOn

/-- The S-link takes bytes (R160). -/
def State.slinkTakes (s : State) : Bool := !s.rstAsserted && !s.powerOn

/-- A request on the M-port (Table 5-1). -/
structure MemRequest where
  tag : MTag
  kind : AccessKind
  word : WordAddr
  lanes : Lanes
  data : Word
deriving DecidableEq, Repr

/-- The request on offer at the M-port (R82, R83). -/
def State.mportRequest (s : State) : Option MemRequest :=
  match s.onOffer with
  | none => none
  | some m =>
    match s.tag m with
    | .active a =>
      match a.purpose with
      | .verify => some { tag := m, kind := .read, word := a.word, lanes := 0b1111, data := 0 }
      | .forwardRead | .forwardWrite =>
        (s.txn? a.owner).map (fun t =>
          { tag := m, kind := t.kind, word := t.word, lanes := t.lanes,
            data := match t.kind with
              | .read => 0
              | .write => t.data })
    | .orphaned _ => none
    | .free => none

/-- The oldest answer, ready on the H-port response channel (R21). -/
def State.answerReady (s : State) : Option HostResponse := s.answers.head?

/-- The response at the head of the delivery queue, ready on the H-port response channel (R77). -/
def State.deliveryReady (s : State) : Option HostResponse :=
  match s.deliveries with
  | [] => none
  | h :: _ =>
    match s.txn? h with
    | none => none
    | some t => t.response.map (fun r => { tag := t.htag, status := r.1, data := r.2 })

/-- The byte that SDO gives during the next eight clocks, none while SDO is released (R156 to R160). -/
def State.sdo (s : State) : Option Byte :=
  if s.powerOn then none
  else
    match s.frame with
    | .idle => none
    | .ignored => some 0xFF
    | .command => some 0xFF
    | .argument _ _ => some 0xFF
    | .output _ .turnaround _ _ => some 0xFF
    | .output _ .result r _ => some r.code
    | .output _ (.reply i) _ bytes => some (byteAt bytes i)
    | .output _ .trailer _ _ => some 0x00
    | .unknown => some Result.badCommand.code

/-- The number of ACTIVE M-tags (R85). -/
def State.activeTags (s : State) : Nat :=
  (s.mtags.toList.filter (fun e => match e with
    | .active _ => true
    | .orphaned _ => false
    | .free => false)).length

/-- The number of ORPHANED M-tags (R85). -/
def State.orphanedTags (s : State) : Nat :=
  (s.mtags.toList.filter (fun e => match e with
    | .active _ => false
    | .orphaned _ => true
    | .free => false)).length

/-- The 16-byte status image (R167, R172, Table 10-7). -/
def State.statusImage (s : State) : List Byte :=
  [(0 : BitVec 2) ++ bit s.attnAsserted ++ bit (s.timing.attnMode == .repulse) ++ bit s.mportResetting
      ++ bit s.rstoAsserted ++ bit s.lock ++ bit (s.mode == .enforce),
    BitVec.ofNat 8 s.records.length]
  ++ bytes16 (BitVec.ofNat 16 s.lost)
  ++ [s.latches.encode, s.mask.encode,
      (s.group 3).code ++ (s.group 2).code ++ (s.group 1).code ++ (s.group 0).code,
      BitVec.ofNat 8 s.table.length,
      BitVec.ofNat 8 s.slotsInUse,
      BitVec.ofNat 4 s.orphanedTags ++ BitVec.ofNat 4 s.activeTags,
      0, 0]
  ++ bytes32 s.timeBase

end Sys2Proof.Machine
end

