-- ==== Sys2Proof/Machine/HostPort.lean ====
section
/-! DEFINITION. The H-port and the classifier (chapter 2): ARRIVAL, ANSWER_TAKEN and DELIVERY. -/

namespace Sys2Proof.Machine

/-- The H-port request channel accepts a request (R19). -/
def State.hportAccepts (s : State) : Bool :=
  !s.rstAsserted && !s.powerOn && s.answers.length < answerCapacity

/-- An answer given at arrival joins the answer queue's tail (R21). -/
def State.answer (req : HostRequest) (status : HostStatus) (data : Word) (s : State) : State :=
  { s with answers := s.answers ++ [{ tag := req.tag, status := status, data := data }] }

/-- The attempted data of an event: a write's data with every byte outside the written lanes zero (R35). -/
def attemptedData (kind : AccessKind) (lanes : Lanes) (data : Word) : Option Word :=
  match kind with
  | .write => some (maskLanes lanes data)
  | .read => none

/-- An event the classifier appends (R35, Table 2-6). -/
def arrivalEvent (req : HostRequest) (kind : EventKind) (reason : Option Reason) (region : Option RegionIndex)
    (reference : Option Word) : Event :=
  { kind := kind, reason := reason, region := region,
    access := some { htag := req.tag, kind := req.kind, lanes := req.lanes },
    word := some req.word,
    attempted := attemptedData req.kind req.lanes req.data,
    reference := reference }

/-- A request enters the table unwatched, as in BYPASS mode (R16, R25). -/
def State.enterUnwatched (req : HostRequest) (s : State) : State := s.enter req .unwatched false none none

/-- A write answered at its arrival with a refusal: the answer, the event and the refusal notice together
(R22, R33, R34). -/
def State.refuseAtArrival (req : HostRequest) (status : HostStatus) (e : Event) (i : RegionIndex) (s : State) :
    State :=
  State.performAll ([.append e] :: s.refusalChains [i]) (s.answer req status 0)

/-- A shape fault (R26, R34). -/
def State.shapeFault (req : HostRequest) (reason : Reason) (i : RegionIndex) (s : State) : State :=
  let e := arrivalEvent req .shapeFault (some reason) (some i) none
  match req.kind with
  | .read => (s.answer req .refused 0).appendEvent e
  | .write => s.refuseAtArrival req .refused e i

/-- A read of a watched word that has passed the shape checks (R27, R28). -/
def State.classifyRead (req : HostRequest) (i : RegionIndex) (r : Region) (s : State) : State :=
  match r.readAction with
  | .pass => s.enter req (.watchedRead .pass i) false none none
  | .note =>
    (s.enter req (.watchedRead .note i) false none none).appendEvent
      (arrivalEvent req .readNoted none (some i) none)
  | .substitute =>
    let data := maskLanes req.lanes r.fill
    (s.answer req .okay data).appendEvent (arrivalEvent req .readSubstituted none (some i) (some data))
  | .refuse =>
    (s.answer req .refused 0).appendEvent (arrivalEvent req .readRefused none (some i) none)

/-- A write of a watched word that has passed the shape checks (R29 to R33, Table 2-5). -/
def State.classifyWrite (req : HostRequest) (i : RegionIndex) (r : Region) (s : State) : State :=
  let snap := s.snapshot i r
  let companion := snap.policy.companion
  match arrivalVerdict snap req.lanes req.data with
  | none => s.enter req (.watchedWrite snap) true companion none
  | some .pass =>
    let entered := s.enter req (.watchedWrite snap) false companion none
    if snap.writeNote then
      entered.appendEvent (arrivalEvent req .writeNoted (some .passing) (some i) none)
    else entered
  | some (.refuse reason) =>
    match snap.violation with
    | .quiet =>
      s.refuseAtArrival req .okay (arrivalEvent req .writeRefused (some reason) (some i) none) i
    | .error =>
      s.refuseAtArrival req .refused (arrivalEvent req .writeRefused (some reason) (some i) none) i
    | .note =>
      (s.enter req (.watchedWrite snap) false companion (some reason)).appendEvent
        (arrivalEvent req .writeNoted (some reason) (some i) none)

/-- A request to a watched word in ENFORCE mode: shape first, then the read action or the policy
(Table 2-3, steps 5 and 6). -/
def State.classifyWatched (req : HostRequest) (i : RegionIndex) (r : Region) (s : State) : State :=
  match r.shapeFault req.lanes with
  | some reason => s.shapeFault req reason i
  | none =>
    match req.kind with
    | .read => s.classifyRead req i r
    | .write => s.classifyWrite req i r

/-- The tag names an unfinished transaction (R24). -/
def State.tagInUse (s : State) (h : HTag) : Bool := s.table.any (fun t => t.htag == h)

/-- The classifier takes an arrival whole, step by step (R22, Table 2-3). -/
def State.classify (req : HostRequest) (s : State) : State :=
  if !legalLanes req.lanes then
    (s.answer req .malformed 0).appendEvent (arrivalEvent req .malformed none none none)
  else if s.tagInUse req.tag then
    (s.answer req .clash 0).appendEvent (arrivalEvent req .tagClash none none none)
  else
    match s.mode with
    | .bypass => s.enterUnwatched req
    | .enforce =>
      match s.governing req.word with
      | none => s.enterUnwatched req
      | some (i, r) => s.classifyWatched req i r

/-- ARRIVAL (R19, R22): a request the channel does not accept is not taken and has no effect. -/
def execArrival (req : HostRequest) (s : State) : Host.Outcome State Fault Refusal :=
  .next (if s.hportAccepts then s.classify req else s)

/-- ANSWER_TAKEN (R21): the oldest answer leaves the answer queue. -/
def execAnswerTaken (s : State) : Host.Outcome State Fault Refusal :=
  .next { s with answers := s.answers.drop 1 }

/-- DELIVERY (R78). -/
def execDelivery (s : State) : Host.Outcome State Fault Refusal :=
  .next s.deliver

end Sys2Proof.Machine
end

