-- ==== Sys2Proof/Machine/MemoryPort.lean ====
section
/-! DEFINITION. The memory port (chapter 5): the request on offer, responses, limits, orphaned tags and the end of
the M-port reset. -/

namespace Sys2Proof.Machine

/-- The limit a purpose takes from the timing settings (R86). -/
def Timing.limit (t : Timing) : Purpose → BitVec 16
  | .verify => t.verifyLimit
  | .forwardRead => t.forwardLimit
  | .forwardWrite => t.forwardLimit

/-- An event the M-port appends: MEMORY is latched with it (R95). -/
def State.latchMemory (s : State) : State := s.latch .memory

/-- An event of the M-port about a record (Table 5-4). -/
def recordEvent (t : Txn) (kind : EventKind) (reason : Option Reason) (word : WordAddr) : Event :=
  { kind := kind, reason := reason, region := t.region?,
    access := some { htag := t.htag, kind := t.kind, lanes := t.lanes },
    word := some word,
    attempted := attemptedData t.kind t.lanes t.data }

/-- Memory takes the request on offer (R86). -/
def State.takeOffer (s : State) : State :=
  match s.onOffer with
  | none => s
  | some m =>
    let started :=
      match s.tag m with
      | .active a => s.setTag m (.active { a with taken := some (s.timeBase, s.timing.limit a.purpose) })
      | .orphaned _ => s
      | .free => s
    State.arbitrate { started with onOffer := none }

/-- The access kind of an orphan's late response (R93). -/
def Purpose.kind : Purpose → AccessKind
  | .verify => .read
  | .forwardRead => .read
  | .forwardWrite => .write

/-- The reason of a LATE_RESPONSE (R89, R93). -/
def lateReason : MemStatus → Option Reason
  | .okay => none
  | .error => some .error

/-- A stray response (R89). -/
def State.strayResponse (status : MemStatus) (s : State) : State :=
  s.latchMemory.appendEvent { kind := .lateResponse, reason := lateReason status }

/-- The event of a late response on an orphan (R93, Table 5-4). -/
def lateEvent (o : OrphanTag) (status : MemStatus) (data : Word) : Event :=
  { kind := .lateResponse, reason := lateReason status, region := o.region,
    access := some { htag := o.htag, kind := o.purpose.kind, lanes := o.lanes },
    word := some o.word,
    reference :=
      match status, o.purpose with
      | .okay, .verify => some data
      | .okay, .forwardRead => some data
      | .okay, .forwardWrite => none
      | .error, _ => none }

/-- A late response on an orphan frees the tag (R93). -/
def State.lateResponse (m : MTag) (o : OrphanTag) (status : MemStatus) (data : Word) (s : State) : State :=
  (State.promoteAndArbitrate (s.setTag m .free)).latchMemory.appendEvent (lateEvent o status data)

/-- The event of a verdict reached after a verify read (R58, Table 3-5). -/
def verdictRecord (t : Txn) (snap : Snapshot) (kind : EventKind) (reason : Reason) (verifyWord : Word) : Event :=
  { kind := kind, reason := some reason, region := some snap.region,
    access := some { htag := t.htag, kind := t.kind, lanes := t.lanes },
    word := some t.word,
    attempted := attemptedData t.kind t.lanes t.data,
    reference := some verifyWord }

/-- The verdict is pass, or refuse under NOTE: the record waits for an M-tag to forward (R54, R56). -/
def State.toIssuePending (h : HTag) (passNote : Option Reason) (s : State) : State :=
  State.arbitrate (s.updateTxn h
    (fun t => { t with state := .issuePending, mtag := none, passNote := passNote.or t.passNote }))

/-- The verdict is refuse under QUIET or ERROR: the answer, the event and the refusal notice (R55, R59). -/
def State.refuseVerified (t : Txn) (snap : Snapshot) (status : HostStatus) (reason : Reason) (verifyWord : Word)
    (s : State) : State :=
  State.performAll
    ([.append (verdictRecord t snap .writeRefused reason verifyWord)] :: s.refusalChains [snap.region])
    (s.complete t.htag status 0).arbitrate

/-- The verdict event of a write (R36, R54 to R56, R72, Table 3-4). -/
def State.reachVerdict (t : Txn) (snap : Snapshot) (verifyWord : Word) (s : State) : State :=
  let s := s.updateTxn t.htag (fun t => { t with verifyWord := some verifyWord })
  match judge snap t.lanes t.data verifyWord with
  | .pass =>
    let issued := s.toIssuePending t.htag none
    if snap.writeNote then
      issued.appendEvent (verdictRecord t snap .writeNoted .passing verifyWord)
    else issued
  | .refuse reason =>
    match snap.violation with
    | .quiet => s.refuseVerified t snap .okay reason verifyWord
    | .error => s.refuseVerified t snap .refused reason verifyWord
    | .note =>
      (s.toIssuePending t.htag (some reason)).appendEvent
        (verdictRecord t snap .writeNoted reason verifyWord)

/-- A verify read has failed: FAULT, VERIFY_FAULT and the refusal notice (R57, R73, R88, R90). -/
def State.verifyFails (t : Txn) (word : WordAddr) (reason : Reason) (s : State) : State :=
  State.performAll
    ([.append (recordEvent t .verifyFault (some reason) word)] :: s.refusalChains t.region?.toList)
    (s.complete t.htag .fault 0).arbitrate.latchMemory

/-- A forward has failed: FAULT and the event, with the pass note as its reason (R75, R88, R91). -/
def State.forwardFails (t : Txn) (kind : EventKind) (s : State) : State :=
  (s.complete t.htag .fault 0).arbitrate.latchMemory.appendEvent (recordEvent t kind t.passNote t.word)

/-- The completion notice of a forward, where the record carries a region index (R87). -/
def completionNotice (t : Txn) (data : Word) : Option Notice :=
  t.region?.map (fun i =>
    { kind := t.kind, region := i, lanes := t.lanes,
      data := match t.kind with
        | .read => data
        | .write => t.data })

/-- The data of an OKAY response to a forward (R74). -/
def forwardData (kind : AccessKind) (data : Word) : Word :=
  match kind with
  | .read => data
  | .write => 0

/-- A forward is completed OKAY by memory (R74, R87). -/
def State.forwardCompletes (t : Txn) (data : Word) (s : State) : State :=
  let s := (s.complete t.htag .okay (forwardData t.kind data)).arbitrate
  match completionNotice t data with
  | some n => s.giveCompletion n
  | none => s

/-- A response on an ACTIVE tag that memory has taken (R87, R88). A tag whose owning record is not in the table, or
a VERIFY tag whose record has no snapshot, stands in no state a run reaches: the tag is freed (log entry 14). -/
def State.activeResponse (m : MTag) (a : ActiveTag) (status : MemStatus) (data : Word) (s : State) : State :=
  let freed := s.setTag m .free
  match s.txn? a.owner with
  | none => freed.arbitrate
  | some t =>
    match a.purpose, status with
    | .verify, .okay =>
      match t.classification with
      | .watchedWrite snap => freed.reachVerdict t snap data
      | .watchedRead _ _ => freed.arbitrate
      | .unwatched => freed.arbitrate
    | .verify, .error => freed.verifyFails t a.word .error
    | .forwardRead, .okay => freed.forwardCompletes t data
    | .forwardWrite, .okay => freed.forwardCompletes t data
    | .forwardRead, .error => freed.forwardFails t .forwardFault
    | .forwardWrite, .error => freed.forwardFails t .forwardFault

/-- The M-port takes a response while it is READY (R84, Table 5-3). -/
def State.respond (resp : MemResponse) (s : State) : State :=
  match s.tag resp.tag with
  | .free => s.strayResponse resp.status
  | .orphaned o => s.lateResponse resp.tag o resp.status resp.data
  | .active a =>
    match a.taken with
    | none => s.strayResponse resp.status
    | some _ => s.activeResponse resp.tag a resp.status resp.data

/-- A response taken now is handled; while the port is RESETTING or RST_N is asserted it is discarded, and during
power-on reset none is taken (R84). -/
def State.handlesResponses (s : State) : Bool := s.port == .ready && !s.rstAsserted && !s.powerOn

/-- The timer of an ACTIVE tag has run out: the time base has advanced by the recorded limit since the taking,
modulo 2^32 (R86). -/
def ActiveTag.expired (a : ActiveTag) (now : Time) : Bool :=
  match a.taken with
  | none => false
  | some (at_, limit) => limit.toNat ≤ (now - at_).toNat

/-- What an orphan keeps of the record it served (Table 5-2). -/
def orphanOf (a : ActiveTag) (t : Txn) : OrphanTag :=
  { purpose := a.purpose, word := a.word, htag := t.htag, lanes := t.lanes, region := t.region? }

/-- The expiry of an ACTIVE VERIFY tag's limit (R90). -/
def State.expireVerify (m : MTag) (s : State) : State :=
  match s.tag m with
  | .active a =>
    if a.purpose == .verify && a.expired s.timeBase then
      match s.txn? a.owner with
      | some t => (s.setTag m (.orphaned (orphanOf a t))).verifyFails t a.word .timeout
      | none => s.setTag m .free
    else s
  | .orphaned _ => s
  | .free => s

/-- The expiry of an ACTIVE forward tag's limit (R91). -/
def State.expireForward (m : MTag) (s : State) : State :=
  match s.tag m with
  | .active a =>
    if a.purpose != .verify && a.expired s.timeBase then
      match s.txn? a.owner with
      | some t => (s.setTag m (.orphaned (orphanOf a t))).forwardFails t .forwardTimeout
      | none => s.setTag m .free
    else s
  | .orphaned _ => s
  | .free => s

/-- The M-port reset ends now (R99). -/
def State.mportResetDue (s : State) : Bool :=
  match s.port with
  | .ready => false
  | .resetting e _ => e == s.timeBase

/-- The end of the M-port reset (R99). -/
def State.endMportReset (s : State) : State :=
  match s.port with
  | .ready => s
  | .resetting e aborted =>
    if e == s.timeBase then
      (State.arbitrate { s with port := .ready }).latchMemory.appendEvent
        { kind := .mportResetDone, count := some (BitVec.ofNat 16 aborted) }
    else s

/-- The assertion of the M-port reset (R76, R96, R97). -/
def State.startMportReset (s : State) : State :=
  let aborted := s.table.filter (fun t => t.mtag.isSome)
  let regions := abortedRegions s.table
  let cleared :=
    { s with
      table := s.table.map abortTxn
      deliveries := s.deliveries ++ aborted.map Txn.htag
      mtags := Vector.replicate 8 .free
      onOffer := none
      port := .resetting (after s.timeBase mportResetLength) aborted.length }
  cleared.promote.performAll (s.refusalChains regions)

/-- MPORT_REQUEST_TAKEN (R86): with no request on offer there is nothing to take. -/
def execMportRequestTaken (s : State) : Host.Outcome State Fault Refusal :=
  .next s.takeOffer

/-- MPORT_RESPONSE_TAKEN (R84). -/
def execMportResponseTaken (resp : MemResponse) (s : State) : Host.Outcome State Fault Refusal :=
  .next (if s.handlesResponses then s.respond resp else s)

/-- VERIFY_LIMIT_EXPIRY (R90). -/
def execVerifyLimitExpiry (tag : MTag) (s : State) : Host.Outcome State Fault Refusal :=
  .next (s.expireVerify tag)

/-- FORWARD_LIMIT_EXPIRY (R91). -/
def execForwardLimitExpiry (tag : MTag) (s : State) : Host.Outcome State Fault Refusal :=
  .next (s.expireForward tag)

/-- MPORT_RESET_END (R99). -/
def execMportResetEnd (s : State) : Host.Outcome State Fault Refusal :=
  .next s.endMportReset

end Sys2Proof.Machine
end

