-- ==== Sys2Proof/Machine/Commands.lean ====
section
/-! DEFINITION. The management commands at their effect events (10.2 to 10.5): the index, field and state checks of
R161, the result and the reply, and the effect on the owning block. The lock check, which comes first, is made for
every command in `State.carryOut`. -/

namespace Sys2Proof.Machine

/-- What a command's effect event fixes: its result, its reply bytes, and the unit's state. -/
structure Carried where
  result : Result
  reply : List Byte
  state : State

/-- A refused command: its reply bytes are all zero and it changes nothing (R157, R161). -/
def Carried.refuse (c : Command) (r : Result) (s : State) : Carried :=
  ⟨r, List.replicate c.replyCount 0, s⟩

/-- A command that is carried out and has no reply bytes. -/
def Carried.ok (s : State) : Carried := ⟨.done, [], s⟩

/-- READ_STATUS (R167). -/
def carryReadStatus (s : State) : Carried := ⟨.done, s.statusImage, s⟩

/-- SET_MODE (R163). -/
def carrySetMode (args : List Byte) (s : State) : Carried :=
  if byteAt args 0 = 0 then .ok { s with mode := .bypass }
  else if byteAt args 0 = 1 then .ok { s with mode := .enforce }
  else .refuse .setMode .badField s

/-- LOCK_CONFIG with the lock clear (R164). -/
def carryLockConfig (s : State) : Carried :=
  match s.mode with
  | .bypass => .refuse .lockConfig .wrongMode s
  | .enforce => .ok { s with lock := true }

/-- SET_TIMING (R165). -/
def carrySetTiming (args : List Byte) (s : State) : Carried :=
  match Timing.decode? args with
  | none => .refuse .setTiming .badField s
  | some t => .ok { s with timing := t }

/-- FETCH_TIMING (R166). -/
def carryFetchTiming (s : State) : Carried := ⟨.done, s.timing.encode, s⟩

/-- LOAD_REGION (R12). -/
def carryLoadRegion (args : List Byte) (s : State) : Carried :=
  match regionOfByte? (byteAt args 0) with
  | none => .refuse .loadRegion .badIndex s
  | some i =>
    match Region.decode? (args.drop 1) with
    | none => .refuse .loadRegion .badField s
    | some r => .ok (s.setRegion i (some r))

/-- FETCH_REGION (R17). -/
def carryFetchRegion (args : List Byte) (s : State) : Carried :=
  match regionOfByte? (byteAt args 0) with
  | none => .refuse .fetchRegion .badIndex s
  | some i => ⟨.done, regionReply (s.region i), s⟩

/-- DROP_REGION (R13). -/
def carryDropRegion (args : List Byte) (s : State) : Carried :=
  match regionOfByte? (byteAt args 0) with
  | none => .refuse .dropRegion .badIndex s
  | some i => .ok (s.setRegion i none)

/-- LOAD_SEQUENCE (R115, R116). -/
def carryLoadSequence (args : List Byte) (s : State) : Carried :=
  match matcherOfByte? (byteAt args 0) with
  | none => .refuse .loadSequence .badIndex s
  | some i =>
    match SeqDef.decode? (args.drop 1) with
    | none => .refuse .loadSequence .badField s
    | some d => .ok (s.setMatcher i (some { defn := d, progress := 0, deadline := none }))

/-- FETCH_SEQUENCE (R118). -/
def carryFetchSequence (args : List Byte) (s : State) : Carried :=
  match matcherOfByte? (byteAt args 0) with
  | none => .refuse .fetchSequence .badIndex s
  | some i => ⟨.done, sequenceReply (s.matcher i) s.timeBase, s⟩

/-- DROP_SEQUENCE (R117). -/
def carryDropSequence (args : List Byte) (s : State) : Carried :=
  match matcherOfByte? (byteAt args 0) with
  | none => .refuse .dropSequence .badIndex s
  | some i => .ok (s.setMatcher i none)

/-- OPEN_WINDOW (R105, R110). -/
def carryOpenWindow (args : List Byte) (s : State) : Carried :=
  match groupOfByte? (byteAt args 0) with
  | none => .refuse .openWindow .badIndex s
  | some g =>
    if read16 args 1 = 0 then .refuse .openWindow .badField s
    else .ok (s.openGroup g (read16 args 1) none)

/-- CLOSE_WINDOW (R106, R110). -/
def carryCloseWindow (args : List Byte) (s : State) : Carried :=
  match groupOfByte? (byteAt args 0) with
  | none => .refuse .closeWindow .badIndex s
  | some g => .ok (s.closeGroup g)

/-- FREEZE_GROUP (R107, R110). -/
def carryFreezeGroup (args : List Byte) (s : State) : Carried :=
  match groupOfByte? (byteAt args 0) with
  | none => .refuse .freezeGroup .badIndex s
  | some g => .ok (s.freezeGroup g none)

/-- TAKE_EVENT at its effect event (R142). -/
def carryTakeEvent (s : State) : Carried :=
  match s.records with
  | [] => ⟨.empty, List.replicate 32 0, s⟩
  | r :: _ => ⟨.done, r.encode, s.nameHead⟩

/-- An acknowledgement of causes: the clearing, the comparison for LOG, and the repulse gap (R152, R153). -/
def State.acknowledge (c : CauseSet) (s : State) : State :=
  let cleared := { s with latches := s.latches.diff c }
  let s := if c.log then cleared.latchLogAtThreshold else cleared
  match s.timing.attnMode with
  | .steady => s
  | .repulse =>
    if s.gap.isNone && s.unmaskedLatched then { s with gap := some (after s.timeBase repulseGapLength) }
    else s

/-- ACK_ATTN (R152, R168). -/
def carryAckAttn (args : List Byte) (s : State) : Carried :=
  match CauseSet.decode? (byteAt args 0) with
  | none => .refuse .ackAttn .badField s
  | some c => .ok (s.acknowledge c)

/-- SET_ATTN_MASK (R150, R168). -/
def carrySetAttnMask (args : List Byte) (s : State) : Carried :=
  match CauseSet.decode? (byteAt args 0) with
  | none => .refuse .setAttnMask .badField s
  | some c => .ok { s with mask := c }

/-- RESET_MPORT (R96). -/
def carryResetMport (s : State) : Carried :=
  match s.port with
  | .ready => .ok s.startMportReset
  | .resetting _ _ => .refuse .resetMport .busy s

/-- The effect event of a command whose code is known: the lock check first, then the command's own (R161). -/
def State.carryOut (c : Command) (args : List Byte) (s : State) : Carried :=
  if s.lock && !c.allowedUnderLock then .refuse c .locked s
  else
    match c with
    | .readStatus => carryReadStatus s
    | .setMode => carrySetMode args s
    | .lockConfig => carryLockConfig s
    | .setTiming => carrySetTiming args s
    | .fetchTiming => carryFetchTiming s
    | .loadRegion => carryLoadRegion args s
    | .fetchRegion => carryFetchRegion args s
    | .dropRegion => carryDropRegion args s
    | .loadSequence => carryLoadSequence args s
    | .fetchSequence => carryFetchSequence args s
    | .dropSequence => carryDropSequence args s
    | .openWindow => carryOpenWindow args s
    | .closeWindow => carryCloseWindow args s
    | .freezeGroup => carryFreezeGroup args s
    | .takeEvent => carryTakeEvent s
    | .ackAttn => carryAckAttn args s
    | .setAttnMask => carrySetAttnMask args s
    | .resetMport => carryResetMport s

end Sys2Proof.Machine
end

