-- ==== Sys2Proof/Machine/Link.lean ====
section
/-! DEFINITION. The management link (10.1): select periods, frames, bytes, and the command rows of the opcode
table, each the frame of its command up to its effect event (log entry 10). -/

namespace Sys2Proof.Machine

/-- The effect event of a command: the result and the reply bytes are fixed and the frame goes on to its
turnaround (R157, R158). -/
def State.effectEvent (c : Command) (args : List Byte) (s : State) : State :=
  let carried := s.carryOut c args
  { carried.state with frame := .output c .turnaround carried.result carried.reply }

/-- SCS_N is deasserted: the frame ends, and a TAKE_EVENT that has not reached its last reply byte removes
nothing (R144, R156, R158). -/
def State.deselect (s : State) : State := { s with frame := .idle, taking := false }

/-- SCS_N is asserted: a select period begins, and waits for a command byte unless the S-link takes none
(R156, R160). -/
def State.select (s : State) : State :=
  match s.frame with
  | .idle => { s with frame := if s.slinkTakes then .command else .ignored }
  | _ => s

/-- The last reply byte of a TAKE_EVENT whose result is DONE has been clocked out: the named record is removed,
and the frame has only its trailer left (R143). -/
def State.finishReply (c : Command) (r : Result) (bytes : List Byte) (s : State) : State :=
  let s := if c = .takeEvent ∧ r = .done then s.removeHead else s
  { s with frame := .output c .trailer r bytes }

/-- A byte is taken in the frame in progress (R157 to R159). -/
def State.takeByte (b : Byte) (s : State) : State :=
  match s.frame with
  | .idle => s
  | .ignored => s
  | .unknown => s
  | .command =>
    match Command.ofCode? b with
    | none => { s with frame := .unknown }
    | some c => if c.argCount = 0 then s.effectEvent c [] else { s with frame := .argument c [] }
  | .argument c args =>
    if args.length + 1 < c.argCount then { s with frame := .argument c (args ++ [b]) }
    else s.effectEvent c (args ++ [b])
  | .output c phase r bytes =>
    match phase with
    | .turnaround => { s with frame := .output c .result r bytes }
    | .result =>
      { s with frame := .output c (if bytes.isEmpty then .trailer else .reply 0) r bytes }
    | .reply i =>
      if i + 1 < bytes.length then { s with frame := .output c (.reply (i + 1)) r bytes }
      else s.finishReply c r bytes
    | .trailer => s

/-- The start of a new frame, whatever stood before: the link carries one frame at a time, so a frame in
progress has been ended by its deselection (R156; log entry 10). -/
def State.newFrame (s : State) : State := s.deselect.select

/-- A management command's frame from its selection to its effect event; while the S-link takes no byte it has no
effect (R160). -/
def State.runFrame (c : Command) (args : List Byte) (s : State) : State :=
  if s.slinkTakes then s.newFrame.effectEvent c args else s

/-- READ_STATUS (R167). -/
def execReadStatus (s : State) : Host.Outcome State Fault Refusal :=
  .next (s.runFrame .readStatus [])

/-- SET_MODE (R163). -/
def execSetMode (mode : Byte) (s : State) : Host.Outcome State Fault Refusal :=
  .next (s.runFrame .setMode [mode])

/-- LOCK_CONFIG (R164). -/
def execLockConfig (s : State) : Host.Outcome State Fault Refusal :=
  .next (s.runFrame .lockConfig [])

/-- SET_TIMING (R165). -/
def execSetTiming (image : Vector Byte 12) (s : State) : Host.Outcome State Fault Refusal :=
  .next (s.runFrame .setTiming image.toList)

/-- FETCH_TIMING (R166). -/
def execFetchTiming (s : State) : Host.Outcome State Fault Refusal :=
  .next (s.runFrame .fetchTiming [])

/-- LOAD_REGION (R12). -/
def execLoadRegion (index : Byte) (image : Vector Byte 32) (s : State) : Host.Outcome State Fault Refusal :=
  .next (s.runFrame .loadRegion (index :: image.toList))

/-- FETCH_REGION (R17). -/
def execFetchRegion (index : Byte) (s : State) : Host.Outcome State Fault Refusal :=
  .next (s.runFrame .fetchRegion [index])

/-- DROP_REGION (R13). -/
def execDropRegion (index : Byte) (s : State) : Host.Outcome State Fault Refusal :=
  .next (s.runFrame .dropRegion [index])

/-- LOAD_SEQUENCE (R116). -/
def execLoadSequence (index : Byte) (image : Vector Byte 68) (s : State) : Host.Outcome State Fault Refusal :=
  .next (s.runFrame .loadSequence (index :: image.toList))

/-- FETCH_SEQUENCE (R118). -/
def execFetchSequence (index : Byte) (s : State) : Host.Outcome State Fault Refusal :=
  .next (s.runFrame .fetchSequence [index])

/-- DROP_SEQUENCE (R117). -/
def execDropSequence (index : Byte) (s : State) : Host.Outcome State Fault Refusal :=
  .next (s.runFrame .dropSequence [index])

/-- OPEN_WINDOW (R105, R110). -/
def execOpenWindow (group : Byte) (duration : BitVec 16) (s : State) : Host.Outcome State Fault Refusal :=
  .next (s.runFrame .openWindow (group :: bytes16 duration))

/-- CLOSE_WINDOW (R106). -/
def execCloseWindow (group : Byte) (s : State) : Host.Outcome State Fault Refusal :=
  .next (s.runFrame .closeWindow [group])

/-- FREEZE_GROUP (R107). -/
def execFreezeGroup (group : Byte) (s : State) : Host.Outcome State Fault Refusal :=
  .next (s.runFrame .freezeGroup [group])

/-- TAKE_EVENT (R142). -/
def execTakeEvent (s : State) : Host.Outcome State Fault Refusal :=
  .next (s.runFrame .takeEvent [])

/-- TAKE_EVENT_REMOVAL (R143): it comes only in the frame of a TAKE_EVENT that has named a record. -/
def execTakeEventRemoval (s : State) : Host.Outcome State Fault Refusal :=
  .next
    (match s.frame with
      | .output .takeEvent _ .done bytes => if s.taking then s.finishReply .takeEvent .done bytes else s
      | _ => s)

/-- ACK_ATTN (R152). -/
def execAckAttn (causes : Byte) (s : State) : Host.Outcome State Fault Refusal :=
  .next (s.runFrame .ackAttn [causes])

/-- SET_ATTN_MASK (R150). -/
def execSetAttnMask (causes : Byte) (s : State) : Host.Outcome State Fault Refusal :=
  .next (s.runFrame .setAttnMask [causes])

/-- RESET_MPORT (R96). -/
def execResetMport (s : State) : Host.Outcome State Fault Refusal :=
  .next (s.runFrame .resetMport [])

/-- BAD_COMMAND (R159): the command byte of a new frame is taken. -/
def execBadCommand (code : Byte) (s : State) : Host.Outcome State Fault Refusal :=
  .next (if s.slinkTakes then s.newFrame.takeByte code else s)

/-- FRAME_DESELECT (R158). -/
def execFrameDeselect (s : State) : Host.Outcome State Fault Refusal :=
  .next s.deselect

/-- SELECT_PERIOD_BEGIN (R156). -/
def execSelectPeriodBegin (s : State) : Host.Outcome State Fault Refusal :=
  .next s.select

/-- SLINK_BYTE_TAKEN (R156, R157); while RST_N is asserted or power-on reset is in progress no byte is taken
(R160). -/
def execSlinkByteTaken (byte : Byte) (s : State) : Host.Outcome State Fault Refusal :=
  .next (if s.slinkTakes then s.takeByte byte else s)

end Sys2Proof.Machine
end

