-- ==== Sys2Proof/Machine/Timers.lean ====
section
/-! DEFINITION. The timers (spec/00_scope.md 7.5): the expiries of windows, deadlines, the reset pulse, the
repulse gap and the closing time, and what the time base does on an empty queue (log entry 2). -/

namespace Sys2Proof.Machine

/-- WINDOW_EXPIRY (R108). -/
def execWindowExpiry (group : GroupIndex) (s : State) : Host.Outcome State Fault Refusal :=
  .next (s.expireWindow group)

/-- DEADLINE_EXPIRY (R125). -/
def execDeadlineExpiry (matcher : MatcherIndex) (s : State) : Host.Outcome State Fault Refusal :=
  .next (s.expireDeadline matcher)

/-- PULSE_END (R131). -/
def execPulseEnd (s : State) : Host.Outcome State Fault Refusal :=
  .next (if s.pulseDue then { s with pulse := none } else s)

/-- The repulse gap ends now (R154). -/
def State.gapDue (s : State) : Bool := s.gap == some s.timeBase

/-- REPULSE_GAP_END (R154). -/
def execRepulseGapEnd (s : State) : Host.Outcome State Fault Refusal :=
  .next (if s.gapDue then { s with gap := none } else s)

/-- The closing time of the open record is now (R138). -/
def State.closingDue (s : State) : Bool := s.openUntil == some s.timeBase

/-- COALESCING_CLOSE (R138). -/
def execCoalescingClose (s : State) : Host.Outcome State Fault Refusal :=
  .next (if s.closingDue then { s with openUntil := none } else s)

/-- The expiry command of an M-tag whose timer has run out. -/
def State.tagExpiry (s : State) (m : MTag) : Option Instr :=
  match s.tag m with
  | .active a =>
    if a.expired s.timeBase then
      some (if a.purpose == .verify then .verifyLimitExpiry m else .forwardLimitExpiry m)
    else none
  | .orphaned _ => none
  | .free => none

/-- The timer events that are due at this value of the time base. -/
def State.dueEvents (s : State) : List Instr :=
  if s.powerOn then []
  else
    (List.finRange 8).filterMap s.tagExpiry
    ++ (if s.mportResetDue then [.mportResetEnd] else [])
    ++ ((List.finRange 4).filter (fun g => s.windowDue g)).map Instr.windowExpiry
    ++ ((List.finRange 4).filter (fun m => s.deadlineDue m)).map Instr.deadlineExpiry
    ++ (if s.pulseDue then [.pulseEnd] else [])
    ++ (if s.gapDue then [.repulseGapEnd] else [])
    ++ (if s.closingDue then [.coalescingClose] else [])

/-- The time base advances by one microsecond, wrapping; whether it does during power-on reset is left free. -/
def State.advanceTime (s : State) : State :=
  if s.powerOn && !Config.timeBaseRunsInPowerOnReset then s else { s with timeBase := s.timeBase + 1 }

/-- What happens where no command waits: the timer events that are due come, in an order that is left free
(log entry 5); where none is, the time base advances. No timer is passed over, since the time base moves only
while none is due. -/
def State.tick (s : State) : State :=
  match s.dueEvents with
  | [] => s.advanceTime
  | e :: es =>
    let (order, n) := interleave ((e :: es).map (fun x => [x])) s.choices
    { s with pending := order, choices := n }

end Sys2Proof.Machine
end

