-- ==== Sys2Proof/Machine/Resets.lean ====
section
/-! DEFINITION. Power-on reset and line reset: POWER_ON_RESET, POWER_ON_RESET_END, LINE_RESET_ASSERT and
LINE_RESET_RELEASE, gathered from the reset rules of every chapter. -/

namespace Sys2Proof.Machine

/-- The state in which the assertion of a line reset leaves the unit (R21, R80, R100, R113, R129, R146, R155, R160):
the traffic, the windows, the progress of sequences, the open and taking marks and the repulse gap are gone; the
tables, the records and counts, the latches and mask, the mode, lock and settings, the pulse and the time base are
kept. A select period in progress is ignored to its end. -/
def State.lineReset (s : State) : State :=
  { s with
    rstAsserted := true
    answers := []
    table := []
    deliveries := []
    mtags := Vector.replicate 8 .free
    onOffer := none
    port := .ready
    groups := closeOpenGroups s.groups
    matchers := restartMatchers s.matchers
    openUntil := none
    taking := false
    gap := none
    frame := if s.frame = .idle then .idle else .ignored }

/-- POWER_ON_RESET (R1, R21, R81, R101, R102, R114, R131, R147, R155, R160, R162): everything takes its value after
power-on reset; the lines RST_N and SCS_N are as they are driven. -/
def execPowerOnReset (s : State) : Host.Outcome State Fault Refusal :=
  .next
    { State.reset with
      powerOn := true
      rstAsserted := s.rstAsserted
      frame := if s.frame = .idle then .idle else .ignored
      choices := s.choices
      pending := s.pending }

/-- POWER_ON_RESET_END (R101, R155, R160). An RST_N asserted now is a line reset asserted at this end (R146). -/
def execPowerOnResetEnd (s : State) : Host.Outcome State Fault Refusal :=
  .next
    (if s.powerOn then
      let ended := { s with powerOn := false }
      if s.rstAsserted then ended.lineReset else ended
    else s)

/-- LINE_RESET_ASSERT: while RST_N is already asserted it has no further effect (R100), and during power-on reset
only the line's level is kept (R146). -/
def execLineResetAssert (s : State) : Host.Outcome State Fault Refusal :=
  .next
    (if s.rstAsserted then s
    else if s.powerOn then { s with rstAsserted := true }
    else s.lineReset)

/-- LINE_RESET_RELEASE (R146): the log appends LINE_RESET; during power-on reset only the line's level is kept. -/
def execLineResetRelease (s : State) : Host.Outcome State Fault Refusal :=
  .next
    (if !s.rstAsserted then s
    else if s.powerOn then { s with rstAsserted := false }
    else State.appendEvent { kind := .lineReset } { s with rstAsserted := false })

end Sys2Proof.Machine
end

