-- ==== Sys2Proof/Machine/Dispatch.lean ====
section
/-! DEFINITION. The dispatch of commands to their meanings, one arm for each row of spec/opcode_table.json. -/

namespace Sys2Proof.Machine

def exec (i : Instr) (s : State) : Host.Outcome State Fault Refusal :=
  match i with
  | .arrival req => Sys2Proof.Machine.execArrival req s
  | .answerTaken => Sys2Proof.Machine.execAnswerTaken s
  | .delivery => Sys2Proof.Machine.execDelivery s
  | .mportRequestTaken => Sys2Proof.Machine.execMportRequestTaken s
  | .mportResponseTaken resp => Sys2Proof.Machine.execMportResponseTaken resp s
  | .verifyLimitExpiry tag => Sys2Proof.Machine.execVerifyLimitExpiry tag s
  | .forwardLimitExpiry tag => Sys2Proof.Machine.execForwardLimitExpiry tag s
  | .mportResetEnd => Sys2Proof.Machine.execMportResetEnd s
  | .readStatus => Sys2Proof.Machine.execReadStatus s
  | .setMode mode => Sys2Proof.Machine.execSetMode mode s
  | .lockConfig => Sys2Proof.Machine.execLockConfig s
  | .setTiming image => Sys2Proof.Machine.execSetTiming image s
  | .fetchTiming => Sys2Proof.Machine.execFetchTiming s
  | .loadRegion index image => Sys2Proof.Machine.execLoadRegion index image s
  | .fetchRegion index => Sys2Proof.Machine.execFetchRegion index s
  | .dropRegion index => Sys2Proof.Machine.execDropRegion index s
  | .loadSequence index image => Sys2Proof.Machine.execLoadSequence index image s
  | .fetchSequence index => Sys2Proof.Machine.execFetchSequence index s
  | .dropSequence index => Sys2Proof.Machine.execDropSequence index s
  | .openWindow group duration => Sys2Proof.Machine.execOpenWindow group duration s
  | .closeWindow group => Sys2Proof.Machine.execCloseWindow group s
  | .freezeGroup group => Sys2Proof.Machine.execFreezeGroup group s
  | .takeEvent => Sys2Proof.Machine.execTakeEvent s
  | .takeEventRemoval => Sys2Proof.Machine.execTakeEventRemoval s
  | .ackAttn causes => Sys2Proof.Machine.execAckAttn causes s
  | .setAttnMask causes => Sys2Proof.Machine.execSetAttnMask causes s
  | .resetMport => Sys2Proof.Machine.execResetMport s
  | .badCommand code => Sys2Proof.Machine.execBadCommand code s
  | .frameDeselect => Sys2Proof.Machine.execFrameDeselect s
  | .windowExpiry group => Sys2Proof.Machine.execWindowExpiry group s
  | .deadlineExpiry matcher => Sys2Proof.Machine.execDeadlineExpiry matcher s
  | .pulseEnd => Sys2Proof.Machine.execPulseEnd s
  | .repulseGapEnd => Sys2Proof.Machine.execRepulseGapEnd s
  | .coalescingClose => Sys2Proof.Machine.execCoalescingClose s
  | .powerOnReset => Sys2Proof.Machine.execPowerOnReset s
  | .lineResetAssert => Sys2Proof.Machine.execLineResetAssert s
  | .lineResetRelease => Sys2Proof.Machine.execLineResetRelease s
  | .selectPeriodBegin => Sys2Proof.Machine.execSelectPeriodBegin s
  | .slinkByteTaken byte => Sys2Proof.Machine.execSlinkByteTaken byte s
  | .powerOnResetEnd => Sys2Proof.Machine.execPowerOnResetEnd s

end Sys2Proof.Machine
end

