-- ==== Sys2Proof/Safety.lean ====
section
/-! DEFINITION. What a sound state of the unit is: the laws that the spec says hold at all times, gathered by
block. Statements that every step keeps them are in Certificates/Slice0/Obligations.lean. -/

namespace Sys2Proof.Machine

/-! ### The event log -/

/-- The frame of a TAKE_EVENT that has named a record and has not reached its last reply byte (R142, R143). -/
def Frame.takesEvent : Frame → Bool
  | .output .takeEvent .trailer _ _ => false
  | .output .takeEvent _ .done _ => true
  | _ => false

/-- The laws of the event log: at most 16 records with consecutive sequence numbers (R132, R135), repeat counts of
1 to 255 (R133), losses counted only while the log is full (R141), an open mark only on a newest record that may
coalesce (R138), and a taking mark only on a head that a TAKE_EVENT in progress has named and closed, and whose
32-byte image is its reply (R142). -/
structure LogSound (s : State) : Prop where
  size : s.records.length ≤ 16
  consecutive : ∀ i (h : i < s.records.length),
    s.records[i].seq = s.nextSeq - BitVec.ofNat 16 (s.records.length - i)
  repeats : ∀ r ∈ s.records, 1 ≤ r.repeatCount ∧ r.repeatCount ≤ 255
  lostBound : s.lost ≤ 65535
  lostFull : s.lost ≠ 0 → s.records.length = 16
  firstLoss : s.firstLoss.isSome = true ↔ s.lost ≠ 0
  latestLoss : s.latestLoss.isSome = true ↔ s.lost ≠ 0
  openNewest : s.openUntil.isSome = true →
    ∃ r, s.records.getLast? = some r ∧ r.event.kind.class = .access ∧ r.repeatCount < 255
  takingHead : s.taking = true → s.records ≠ []
  takingClosed : s.taking = true → s.records.length = 1 → s.openUntil = none
  takingFrame : s.taking = s.frame.takesEvent
  takenImage : ∀ phase bytes, s.frame = .output .takeEvent phase .done bytes → bytes.length = 32

/-! ### The configuration -/

/-- The laws of the configuration: the timing settings, every present entry and every definition are legal
(Tables 1-5, 7-3 and 10-6), and the lock is set in ENFORCE mode alone (R164). -/
structure ConfigSound (s : State) : Prop where
  timing : s.timing.legal = true
  regions : ∀ i r, s.region i = some r → r.legal = true
  definitions : ∀ i m, s.matcher i = some m → m.defn.legal = true
  lockMode : s.lock = true → s.mode = .enforce

/-! ### The matchers -/

/-- The running state of a defined matcher: progress below its one to six steps, and a deadline exactly while
progress is above 0 (R114, Table 7-2). -/
structure Matcher.Sound (m : Matcher) : Prop where
  progress : m.progress < m.defn.steps.length
  steps : m.defn.steps.length ≤ 6
  deadline : m.deadline.isSome = true ↔ m.progress ≠ 0

/-- Every defined matcher is sound. -/
def MatchersSound (s : State) : Prop := ∀ i m, s.matcher i = some m → m.Sound

/-! ### The transaction table and the M-port -/

/-- No two records carry the same H-tag (R60). -/
def DistinctTags (s : State) : Prop := (s.table.map Txn.htag).Nodup

/-- No more than four records hold a hold slot (R67). -/
def SlotsBounded (s : State) : Prop := s.slotsInUse ≤ 4

/-- The word that a record's request in progress carries: its verify read's or its forward's (R70, R71). -/
def Txn.requestWord (t : Txn) : WordAddr :=
  match t.state with
  | .verifying => t.companion.getD t.word
  | _ => t.word

/-- The purpose of a record's request in progress. -/
def Txn.requestPurpose (t : Txn) : Purpose :=
  match t.state with
  | .verifying => .verify
  | _ => forwardPurpose t.kind

/-- What each state of a record says of its hold slot, its M-tag and its response (Table 4-2). -/
def Txn.shape (t : Txn) : Bool :=
  match t.state with
  | .waiting => !t.holdSlot && t.mtag.isNone && t.response.isNone
  | .ready => !t.holdSlot && t.mtag.isNone && t.response.isNone
  | .verifying => t.needsVerify && t.holdSlot && t.mtag.isSome && t.response.isNone
  | .issuePending => t.needsVerify && t.holdSlot && t.mtag.isNone && t.response.isNone
  | .issued => (t.holdSlot == t.needsVerify) && t.mtag.isSome && t.response.isNone
  | .complete => (t.holdSlot == t.needsVerify) && t.mtag.isNone && t.response.isSome

/-- A record's touched words are its own and its companion's, and one that needs a verify read is a watched write
(Table 4-1). -/
def Txn.entered (t : Txn) : Bool :=
  t.touched == touchedWords t.word t.companion
    && (!t.needsVerify || (match t.classification with
      | .watchedWrite _ => true
      | .watchedRead _ _ => false
      | .unwatched => false))

/-- The record may be held back only while WAITING, and is WAITING only while held back (R63): `held` are the words
of earlier records, `orphans` those of orphaned tags. A COMPLETE record is not held by an orphan (R65). -/
def Txn.ordered (held orphans : List WordAddr) (t : Txn) : Bool :=
  match t.state with
  | .waiting => blockedBy (orphans ++ held) t.touched
  | .complete => !blockedBy held t.touched
  | .ready => !blockedBy (orphans ++ held) t.touched
  | .verifying => !blockedBy (orphans ++ held) t.touched
  | .issuePending => !blockedBy (orphans ++ held) t.touched
  | .issued => !blockedBy (orphans ++ held) t.touched

/-- Every record of a table stands in the order of R63 behind the words held before it. -/
def tableOrdered (orphans : List WordAddr) : List WordAddr → List Txn → Bool
  | _, [] => true
  | held, t :: rest => t.ordered held orphans && tableOrdered orphans (held ++ t.touched) rest

/-- The word an ACTIVE or ORPHANED tag carries (Table 5-2). -/
def TagEntry.word? : TagEntry → Option WordAddr
  | .free => none
  | .active a => some a.word
  | .orphaned o => some o.word

/-- The laws of the transaction table and the M-port: distinct H-tags (R60), at most four slots (R67), records shaped
by their states (Table 4-2), word order (R63 to R65), the delivery queue as the COMPLETE records (R77), records and
ACTIVE tags naming each other (R85), one request on offer, which is the one not yet taken (R83), and no tag in use
while the port is RESETTING (R97, R98). -/
structure TableSound (s : State) : Prop where
  distinct : DistinctTags s
  slots : SlotsBounded s
  shapes : ∀ t ∈ s.table, t.shape = true ∧ t.entered = true
  ordered : tableOrdered s.orphanWords [] s.table = true
  queue : s.deliveries.Nodup
  queued : ∀ h, h ∈ s.deliveries ↔ ∃ t ∈ s.table, t.htag = h ∧ t.state = .complete
  owned : ∀ m a, s.tag m = .active a →
    ∃ t ∈ s.table, t.htag = a.owner ∧ t.mtag = some m ∧ a.word = t.requestWord ∧ a.purpose = t.requestPurpose
  owner : ∀ t ∈ s.table, ∀ m, t.mtag = some m → ∃ a, s.tag m = .active a ∧ a.owner = t.htag
  orphans : s.orphanWords.Nodup
  offered : ∀ m, s.onOffer = some m ↔ ∃ a, s.tag m = .active a ∧ a.taken = none
  resetting : s.port ≠ .ready → ∀ m, s.tag m = .free

/-- No grant is open: the arbiter has made every grant that R68 asks for. -/
def ArbiterSettled (s : State) : Prop :=
  s.mayGrant = true → s.lowestFreeTag.isSome = true → s.oldestCandidate = none

/-- No two M-tags carry the same word (R85). -/
def DistinctTagWords (s : State) : Prop :=
  ∀ m n w, (s.tag m).word? = some w → (s.tag n).word? = some w → m = n

/-! ### Resets -/

/-- What holds while RST_N is asserted (R80, R100, R113, R129, R146, R155). -/
structure Quiet (s : State) : Prop where
  answers : s.answers = []
  table : s.table = []
  deliveries : s.deliveries = []
  tags : ∀ m, s.tag m = .free
  offer : s.onOffer = none
  port : s.port = .ready
  groups : ∀ g e, s.group g ≠ .opened e
  matchers : ∀ i m, s.matcher i = some m → m.progress = 0 ∧ m.deadline = none
  marks : s.openUntil = none ∧ s.taking = false
  gap : s.gap = none
  frame : s.frame = .idle ∨ s.frame = .ignored

/-! ### Words the statements share -/

/-- The S-link takes bytes: RST_N is released and no power-on reset is in progress (R160). -/
def LinkUp (s : State) : Prop := s.rstAsserted = false ∧ s.powerOn = false

/-- The state in which a command that named no record leaves the link: its result and reply are fixed, and the frame
goes on to its turnaround (R157, R158). -/
def State.answered (s : State) (c : Command) (r : Result) (reply : List Byte) : State :=
  { s with taking := false, frame := .output c .turnaround r reply }

/-- `s` with the log and the latches of `t`: what append requests can change. -/
def State.logFrom (s t : State) : State :=
  { s with
    records := t.records
    nextSeq := t.nextSeq
    lost := t.lost
    firstLoss := t.firstLoss
    latestLoss := t.latestLoss
    openUntil := t.openUntil
    latches := t.latches }

/-- `s` with the table, the tags and the offer of `t`: what a grant can change. -/
def State.grantsFrom (s t : State) : State :=
  { s with table := t.table, mtags := t.mtags, onOffer := t.onOffer }

/-- A matcher after the refusal notices of the given regions (R124). -/
def Matcher.afterRefusals (regions : List RegionIndex) (m : Matcher) : Matcher :=
  if m.progress ≠ 0 ∧ regions.any m.relevantRefusal = true then m.restart else m

/-- All matchers after the refusal notices of the given regions. -/
def matchersAfter (regions : List RegionIndex) (ms : Vector (Option Matcher) 4) : Vector (Option Matcher) 4 :=
  ms.map (Option.map (Matcher.afterRefusals regions))

/-- The events of the sequences in progress that the refusal notices of the given regions break, one for each: it
carries the progress the matcher had and the region of the first notice that reaches it (R124). -/
def State.brokenEvents (s : State) (regions : List RegionIndex) (first : MatcherIndex → RegionIndex) : List Event :=
  (List.finRange 4).filterMap (fun k =>
    (s.matcher k).bind (fun m =>
      if m.progress ≠ 0 ∧ regions.any m.relevantRefusal = true then
        some { kind := .sequenceLapsed, reason := some .broken, region := some (first k), matcher := some k,
               count := some (BitVec.ofNat 16 m.progress) }
      else none))

/-- From `s`, refusal notices for the given regions are given to all matchers, in some order, and the block that gives
them makes the append requests `own`: the broken sequences are back at their first step, and the log takes all the
events in some order (R119, R124, R137). -/
def BreaksSequences (regions : List RegionIndex) (own : List Event) (s t : State) : Prop :=
  ∃ (first : MatcherIndex → RegionIndex) (order : List Event) (n : Nat),
    (∀ k m, s.matcher k = some m → m.progress ≠ 0 → regions.any m.relevantRefusal = true →
      first k ∈ regions ∧ m.relevantRefusal (first k) = true)
    ∧ order.Perm (own ++ s.brokenEvents regions first)
    ∧ t = order.foldl (fun u e => u.appendEvent e)
        { s with matchers := matchersAfter regions s.matchers, choices := n }

/-- The record of a request that enters now (R61): it is WAITING where an earlier record or an orphaned tag has one of
its touched words (R63), and READY otherwise. -/
def State.entryOf (s : State) (req : HostRequest) (c : Classification) (verify : Bool) (companion : Option WordAddr)
    (note : Option Reason) : Txn :=
  { htag := req.tag, kind := req.kind, word := req.word, lanes := req.lanes,
    data := if req.kind = .write then req.data else 0,
    classification := c, needsVerify := verify,
    touched := touchedWords req.word companion, companion := companion,
    state :=
      if ∃ w ∈ touchedWords req.word companion, w ∈ s.orphanWords ∨ ∃ t ∈ s.table, w ∈ t.touched then .waiting
      else .ready,
    holdSlot := false, mtag := none, verifyWord := none, passNote := note, response := none }

/-- A record with its response formed (R72 to R76). -/
def Txn.answered (t : Txn) (status : HostStatus) (data : Word) : Txn :=
  { t with state := .complete, mtag := none, response := some (status, data) }

/-- A record is a candidate of the arbiter (R69). -/
def Candidate (s : State) (t : Txn) : Prop :=
  t.state = .issuePending ∨ t.state = .ready ∧ (t.needsVerify = false ∨ s.slotsInUse < 4)

/-- A record is the oldest candidate (R69). -/
def OldestCandidate (s : State) (t : Txn) : Prop :=
  ∃ older younger, s.table = older ++ t :: younger ∧ Candidate s t ∧ ∀ x ∈ older, ¬ Candidate s x

/-- An M-tag is the FREE one of lowest number (R69). -/
def LowestFree (s : State) (m : MTag) : Prop := s.tag m = .free ∧ ∀ n, n < m → s.tag n ≠ .free

/-- The event and the newest record hold the same values, and the record is open (R139). -/
def MayCoalesce (s : State) (e : Event) (r : Record) : Prop :=
  e.kind.class = .access ∧ s.openUntil.isSome = true ∧ s.records.getLast? = some r
    ∧ e.kind = r.event.kind ∧ e.reason = r.event.reason ∧ e.region = r.event.region ∧ e.word = r.event.word
    ∧ e.access.map (·.kind) = r.event.access.map (·.kind)

/-- Requests that several blocks make at one event, one list for each block, are taken in an order: each request once,
each block's own in the order that block makes them (R137). -/
def TakenInOrder {α : Type} (blocks : List (List α)) (order : List α) : Prop :=
  order.Perm blocks.flatten ∧ ∀ own ∈ blocks, own.Sublist order

/-- A step matches a completion notice (R120). -/
def SeqStep.Matches (st : SeqStep) (n : Notice) : Prop :=
  st.kind = n.kind ∧ st.region = n.region
    ∧ ∀ l : Fin 4, byteOf st.mask l ≠ 0 →
        n.lanes.getLsbD l.val = true ∧ byteOf n.data l &&& byteOf st.mask l = byteOf st.value l &&& byteOf st.mask l

/-- The frame that a management row of the opcode table stands for: its command and its argument bytes. -/
def frameOf : Instr → Option (Command × List Byte)
  | .readStatus => some (.readStatus, [])
  | .setMode mode => some (.setMode, [mode])
  | .lockConfig => some (.lockConfig, [])
  | .setTiming image => some (.setTiming, image.toList)
  | .fetchTiming => some (.fetchTiming, [])
  | .loadRegion index image => some (.loadRegion, index :: image.toList)
  | .fetchRegion index => some (.fetchRegion, [index])
  | .dropRegion index => some (.dropRegion, [index])
  | .loadSequence index image => some (.loadSequence, index :: image.toList)
  | .fetchSequence index => some (.fetchSequence, [index])
  | .dropSequence index => some (.dropSequence, [index])
  | .openWindow group d => some (.openWindow, [group, d.extractLsb' 0 8, d.extractLsb' 8 8])
  | .closeWindow group => some (.closeWindow, [group])
  | .freezeGroup group => some (.freezeGroup, [group])
  | .takeEvent => some (.takeEvent, [])
  | .ackAttn causes => some (.ackAttn, [causes])
  | .setAttnMask causes => some (.setAttnMask, [causes])
  | .resetMport => some (.resetMport, [])
  | .arrival _ | .answerTaken | .delivery | .mportRequestTaken | .mportResponseTaken _
  | .verifyLimitExpiry _ | .forwardLimitExpiry _ | .mportResetEnd | .takeEventRemoval | .badCommand _
  | .frameDeselect | .windowExpiry _ | .deadlineExpiry _ | .pulseEnd | .repulseGapEnd | .coalescingClose
  | .powerOnReset | .lineResetAssert | .lineResetRelease
  | .selectPeriodBegin | .slinkByteTaken _ | .powerOnResetEnd => none

/-! ### Byte layouts (10.6) -/

/-- The number that `n` bytes of an image hold from byte `k` on, the least significant first (10.6). -/
def fieldAt (img : List Byte) (k n : Nat) : Nat :=
  ((img.drop k).take n).foldr (fun b high => b.toNat + 256 * high) 0

/-- The number that `n` bits of byte `k` hold from bit `low` on. -/
def bitsAt (img : List Byte) (k low n : Nat) : Nat := fieldAt img k 1 / 2 ^ low % 2 ^ n

/-- The kind code, the flag and the parameters of a policy (Tables 1-4 and 10-5). -/
def Policy.HasFields : Policy → (kind flag p1 p2 : Nat) → Prop
  | .free, kind, flag, p1, p2 => kind = 0 ∧ flag = 0 ∧ p1 = 0 ∧ p2 = 0
  | .frozen, kind, flag, p1, p2 => kind = 1 ∧ flag = 0 ∧ p1 = 0 ∧ p2 = 0
  | .bounded lo hi, kind, flag, p1, p2 => kind = 2 ∧ flag = 0 ∧ p1 = lo.toNat ∧ p2 = hi.toNat
  | .stepped lo hi wrapAllow, kind, flag, p1, p2 =>
    kind = 3 ∧ flag = wrapAllow.toNat ∧ p1 = lo.toNat ∧ p2 = hi.toNat
  | .gated companion nonzero, kind, flag, p1, p2 =>
    kind = 4 ∧ flag = nonzero.toNat ∧ p1 = companion.toNat ∧ p2 = 0

/-- The 32 bytes are the region image of an entry (Tables 10-4 and 10-5). -/
structure Region.HasImage (r : Region) (img : List Byte) : Prop where
  length : img.length = 32
  base : fieldAt img 0 4 = r.base.toNat
  count : fieldAt img 4 3 = r.count.toNat
  width : bitsAt img 7 0 2 = match r.width with
    | .w8 => 0
    | .w16 => 1
    | .w32 => 2
  signed : bitsAt img 7 2 1 = r.signed.toNat
  natural : bitsAt img 7 3 1 = r.natural.toNat
  sizes : bitsAt img 7 4 1 = r.allowByte.toNat ∧ bitsAt img 7 5 1 = r.allowHalf.toNat
    ∧ bitsAt img 7 6 1 = r.allowWord.toNat
  writeNote : bitsAt img 7 7 1 = r.writeNote.toNat
  readAction : bitsAt img 8 0 2 = match r.readAction with
    | .pass => 0
    | .note => 1
    | .substitute => 2
    | .refuse => 3
  violation : bitsAt img 8 2 2 = match r.violation with
    | .quiet => 0
    | .error => 1
    | .note => 2
  groupPresent : bitsAt img 8 4 1 = r.group.isSome.toNat
  group : bitsAt img 8 5 2 = r.group.elim 0 Fin.val
  alternatePresent : bitsAt img 8 7 1 = r.alternate.isSome.toNat
  primary : r.primary.HasFields (bitsAt img 9 0 3) (bitsAt img 9 3 1) (fieldAt img 12 4) (fieldAt img 16 4)
  alternate : (r.alternate.getD .free).HasFields (bitsAt img 9 4 3) (bitsAt img 9 7 1) (fieldAt img 20 4)
    (fieldAt img 24 4)
  reserved : fieldAt img 10 2 = 0
  fill : fieldAt img 28 4 = r.fill.toNat

/-- The 68 bytes are the sequence image of a definition (Tables 10-5 and 10-6a). -/
structure SeqDef.HasImage (d : SeqDef) (img : List Byte) : Prop where
  length : img.length = 68
  count : fieldAt img 0 1 = d.steps.length
  gap : fieldAt img 1 2 = d.gap.toNat
  action : match d.action with
    | .noteOnly => fieldAt img 3 1 = 0 ∧ fieldAt img 4 1 = 0 ∧ fieldAt img 5 2 = 0
    | .resetPulse => fieldAt img 3 1 = 1 ∧ fieldAt img 4 1 = 0 ∧ fieldAt img 5 2 = 0
    | .openWindow g duration => fieldAt img 3 1 = 2 ∧ fieldAt img 4 1 = g.val ∧ fieldAt img 5 2 = duration.toNat
    | .freezeGroup g => fieldAt img 3 1 = 3 ∧ fieldAt img 4 1 = g.val ∧ fieldAt img 5 2 = 0
  reserved : fieldAt img 7 1 = 0
  steps : ∀ k st, d.steps[k]? = some st →
    fieldAt img (8 + 10 * k) 1 = (if st.kind = .write then 1 else 0) ∧ fieldAt img (9 + 10 * k) 1 = st.region.val
      ∧ fieldAt img (10 + 10 * k) 4 = st.mask.toNat ∧ fieldAt img (14 + 10 * k) 4 = st.value.toNat
  unused : ∀ k, 8 + 10 * d.steps.length ≤ k → k < 68 → fieldAt img k 1 = 0

/-- The 32 bytes are the event record image of a record (R171, Table 10-8). An absent field reads as zero. -/
structure Record.HasImage (r : Record) (img : List Byte) : Prop where
  length : img.length = 32
  seq : fieldAt img 0 2 = r.seq.toNat
  kind : fieldAt img 2 1 = r.event.kind.code.toNat
  reason : fieldAt img 3 1 = r.event.reason.elim 0 (fun x => x.code.toNat)
  firstTime : fieldAt img 4 4 = r.firstTime.toNat
  lastTime : fieldAt img 8 4 = r.lastTime.toNat
  repeatCount : fieldAt img 12 1 = r.repeatCount
  present : (List.range 8).map (fun b => bitsAt img 13 b 1)
    = [r.event.region.isSome, r.event.access.isSome, r.event.word.isSome, r.event.attempted.isSome,
       r.event.reference.isSome, r.event.matcher.isSome, r.event.group.isSome, r.event.count.isSome].map Bool.toNat
  region : fieldAt img 14 1 = r.event.region.elim 0 Fin.val
  htag : bitsAt img 15 0 4 = r.event.access.elim 0 (fun a => a.htag.val)
  lanes : bitsAt img 15 4 4 = r.event.access.elim 0 (fun a => a.lanes.toNat)
  accessKind : bitsAt img 16 0 1 = r.event.access.elim 0 (fun a => if a.kind = .write then 1 else 0)
  matcher : bitsAt img 16 1 2 = r.event.matcher.elim 0 Fin.val
  group : bitsAt img 16 3 2 = r.event.group.elim 0 Fin.val
  zero : bitsAt img 16 5 3 = 0 ∧ fieldAt img 17 1 = 0
  count : fieldAt img 18 2 = r.event.count.elim 0 BitVec.toNat
  word : fieldAt img 20 4 = r.event.word.elim 0 (fun w => 4 * w.toNat)
  attempted : fieldAt img 24 4 = r.event.attempted.elim 0 BitVec.toNat
  reference : fieldAt img 28 4 = r.event.reference.elim 0 BitVec.toNat

/-- The commands of a list, executed one after another, lead from one state to another. -/
def Runs : List Instr → State → State → Prop
  | [], s, t => s = t
  | c :: cs, s, t => ∃ u, exec c s = .next u ∧ Runs cs u t

/-- A request that the classifier takes with a legal lane mask and a free tag (Table 2-3, steps 1 and 2). -/
structure Accepted (req : HostRequest) (s : State) : Prop where
  up : LinkUp s
  room : s.answers.length < 16
  lanes : legalLanes req.lanes = true
  tag : ∀ t ∈ s.table, t.htag ≠ req.tag

/-- An accepted request to a word governed by entry `r` of index `i` in ENFORCE mode, of a shape the entry allows. -/
structure Watched (req : HostRequest) (i : RegionIndex) (r : Region) (s : State) : Prop where
  accepted : Accepted req s
  mode : s.mode = .enforce
  governing : s.governing req.word = some (i, r)
  shape : r.shapeFault req.lanes = none

end Sys2Proof.Machine
end

