-- ==== Sys2Proof/Certificates/Slice0/Obligations.lean ====
section
/-! DEFINITION. The statements for the provers: what the commands of the Lambric 3140 do, and the laws that every step
keeps. Each docstring names the rule of spec/ it comes from. A statement that says which next state a command has is
also its completion: the conclusion is an equation with `.next`. -/

open Sys2Proof Sys2Proof.Machine

/-! ### The queue and time -/

/-- The model's queue: a step executes the command at the front on the state with the queue's rest. -/
def Obligations.StepRunsFrontCommand : Prop :=
  ∀ (c : Instr) (s : State) (rest : List Instr),
    step { s with pending := c :: rest } = exec c { s with pending := rest }

/-- The model's choice of log entry 2, over 7.5 of the scope: on an empty queue the timers that are due put their
commands on the queue, in some order, and otherwise the time base advances by one microsecond. The due commands are
those of the timers whose end the time base has reached. -/
def Obligations.EmptyQueuePassesOverNoTimer : Prop :=
  ∀ s : State, s.pending = [] → s.powerOn = false →
    (s.dueEvents = [] → step s = .next { s with timeBase := s.timeBase + 1 })
    ∧ (s.dueEvents ≠ [] → ∃ (order : List Instr) (n : Nat), order.Perm s.dueEvents
        ∧ step s = .next { s with pending := order, choices := n })
    ∧ (∀ g, .windowExpiry g ∈ s.dueEvents ↔ s.group g = .opened s.timeBase)
    ∧ (∀ i, .deadlineExpiry i ∈ s.dueEvents ↔ ∃ m, s.matcher i = some m ∧ m.deadline = some s.timeBase)
    ∧ (∀ m, .verifyLimitExpiry m ∈ s.dueEvents ↔ ∃ a start limit, s.tag m = .active a ∧ a.purpose = .verify
        ∧ a.taken = some (start, limit) ∧ limit.toNat ≤ (s.timeBase - start).toNat)
    ∧ (∀ m, .forwardLimitExpiry m ∈ s.dueEvents ↔ ∃ a start limit, s.tag m = .active a ∧ a.purpose ≠ .verify
        ∧ a.taken = some (start, limit) ∧ limit.toNat ≤ (s.timeBase - start).toNat)
    ∧ (.mportResetEnd ∈ s.dueEvents ↔ ∃ n, s.port = .resetting s.timeBase n)
    ∧ (.pulseEnd ∈ s.dueEvents ↔ s.pulse = some s.timeBase)
    ∧ (.repulseGapEnd ∈ s.dueEvents ↔ s.gap = some s.timeBase)
    ∧ (.coalescingClose ∈ s.dueEvents ↔ s.openUntil = some s.timeBase)

/-- Every command completes, whatever its operands and the state; none touches the queue, and none but POWER_ON_RESET
moves the time base. This is the model's: that a row which the state rules out completes with no effect is log entries 1,
9, 10 and 12, that the queue is nothing a command reaches is log entries 7 and 21, and that time moves between commands
is log entry 2; the spec's part is that a row is a step, whole and indivisible. -/
def Obligations.CommandsKeepQueueAndTime : Prop :=
  ∀ (c : Instr) (s : State), ∃ t, exec c s = .next t ∧ t.pending = s.pending
    ∧ (c ≠ .powerOnReset → t.timeBase = s.timeBase)

/-! ### Resets -/

/-- POWER_ON_RESET (R1, R21, R81, R101, R102, R114, R131, R147, R149, R150, R160, R162, Table 10-6): everything takes
its value after power-on reset. That the lines' levels and the model's own fields are kept is log entry 7. With RST_N
released, POWER_ON_RESET_END leaves the unit ready as it stands (R101, R160). -/
def Obligations.PowerOnResetClearsTheUnit : Prop :=
  ∀ s : State, ∃ t, exec .powerOnReset s = .next t
    ∧ t.powerOn = true ∧ t.rstAsserted = s.rstAsserted ∧ t.timeBase = 0
    ∧ t.answers = [] ∧ t.table = [] ∧ t.deliveries = []
    ∧ (∀ m, t.tag m = .free) ∧ t.onOffer = none ∧ t.port = .ready
    ∧ (∀ i, t.region i = none) ∧ (∀ g, t.group g = .closed) ∧ (∀ i, t.matcher i = none) ∧ t.pulse = none
    ∧ t.records = [] ∧ t.nextSeq = 0 ∧ t.lost = 0 ∧ t.firstLoss = none ∧ t.latestLoss = none
    ∧ t.openUntil = none ∧ t.taking = false
    ∧ t.latches = ⟨false, false, false, false⟩ ∧ t.mask = ⟨false, false, false, false⟩ ∧ t.gap = none
    ∧ t.mode = .bypass ∧ t.lock = false ∧ t.timing = ⟨250, 2000, 500, 20, 1, .steady⟩
    ∧ t.frame = (if s.frame = .idle then .idle else .ignored)
    ∧ t.choices = s.choices ∧ t.pending = s.pending
    ∧ (s.powerOn = true → s.rstAsserted = false → exec .powerOnResetEnd s = .next { s with powerOn := false })

/-- LINE_RESET_ASSERT, and POWER_ON_RESET_END while RST_N is asserted (R21, R80, R100, R113, R129, R146, R155, R160):
the traffic, the windows, the progress of sequences, the marks and the gap are gone, and everything else is kept. A
line reset asserted while RST_N is asserted has no further effect (R100), and LINE_RESET_RELEASE appends LINE_RESET
(R146). During power-on reset only the line's level moves (R146), and the end of a reset that is not in progress has no
effect (log entry 1). -/
def Obligations.LineResetClearsTheTraffic : Prop :=
  (∀ s : State,
    (s.rstAsserted = true → s.powerOn = false →
      exec .lineResetRelease s = .next (State.appendEvent { kind := .lineReset } { s with rstAsserted := false }))
    ∧ (s.rstAsserted = true → exec .lineResetAssert s = .next s)
    ∧ (s.powerOn = true → exec .lineResetAssert s = .next { s with rstAsserted := true }
      ∧ exec .lineResetRelease s = .next { s with rstAsserted := false })
    ∧ (s.rstAsserted = false → exec .lineResetRelease s = .next s)
    ∧ (s.powerOn = false → exec .powerOnResetEnd s = .next s))
  ∧ ∀ (c : Instr) (s : State),
    (c = .lineResetAssert ∧ LinkUp s ∨ c = .powerOnResetEnd ∧ s.powerOn = true ∧ s.rstAsserted = true) →
    ∃ t, exec c s = .next t
      ∧ t = { s with
          powerOn := false, rstAsserted := true, answers := [], table := [], deliveries := [],
          mtags := t.mtags, onOffer := none, port := .ready, groups := t.groups, matchers := t.matchers,
          openUntil := none, taking := false, gap := none,
          frame := if s.frame = .idle then .idle else .ignored }
      ∧ (∀ m, t.tag m = .free)
      ∧ (∀ g, t.group g = match s.group g with
          | .opened _ => .closed
          | .closed => .closed
          | .frozen => .frozen)
      ∧ ∀ i, t.matcher i = (s.matcher i).map (fun m => { m with progress := 0, deadline := none })

/-! ### Arrivals -/

/-- A malformed lane mask, and after it a tag clash, are answered at the arrival with their events, in both unit modes
(R23, R24, R35). The legal masks are the eight runs of Table 2-4, the bits of a mask are those of its lanes, and the
events hold the fields of Table 2-6. While RST_N is asserted, during power-on reset and while 16 answers wait the channel
accepts no request (R19): that it is then not taken and has no effect is log entry 9. -/
def Obligations.ArrivalsNotClassified : Prop :=
  (∀ lanes : Lanes, legalLanes lanes = true ↔
    lanes ∈ [0b0001, 0b0010, 0b0100, 0b1000, 0b0011, 0b0110, 0b1100, 0b1111])
  ∧ (∀ (lanes : Lanes) (i : Nat), i < 32 → (laneBits lanes).getLsbD i = lanes.getLsbD (i / 8))
  ∧ ∀ (req : HostRequest) (s : State),
    let event (kind : EventKind) : Event :=
      { kind := kind, access := some ⟨req.tag, req.kind, req.lanes⟩, word := some req.word,
        attempted := if req.kind = .write then some (req.data &&& laneBits req.lanes) else none }
    ((s.rstAsserted = true ∨ s.powerOn = true ∨ s.answers.length = 16) → exec (.arrival req) s = .next s)
    ∧ (LinkUp s → s.answers.length < 16 → legalLanes req.lanes = false →
      exec (.arrival req) s = .next (State.appendEvent (event .malformed)
        { s with answers := s.answers ++ [⟨req.tag, .malformed, 0⟩] }))
    ∧ (LinkUp s → s.answers.length < 16 → legalLanes req.lanes = true → (∃ t ∈ s.table, t.htag = req.tag) →
      exec (.arrival req) s = .next (State.appendEvent (event .tagClash)
        { s with answers := s.answers ++ [⟨req.tag, .clash, 0⟩] }))

/-- A request in BYPASS mode, or to an unwatched word, enters the table unwatched and the arbiter looks (R16, R25,
R61). That the record of a read holds zero as its data is the model's choice of log entry 17. -/
def Obligations.UnwatchedRequestEnters : Prop :=
  ∀ (req : HostRequest) (s : State), Accepted req s → (s.mode = .bypass ∨ s.governing req.word = none) →
    exec (.arrival req) s = .next
      (State.arbitrate { s with table := s.table ++ [s.entryOf req .unwatched false none none] })

/-- The governing entry of a word is the present entry of lowest index whose span contains it (R2, R15). -/
def Obligations.GoverningEntryIsLowest : Prop :=
  ∀ (s : State) (w : WordAddr) (i : RegionIndex) (r : Region),
    s.governing w = some (i, r) ↔
      s.region i = some r ∧ r.base.toNat / 4 ≤ w.toNat ∧ w.toNat ≤ r.base.toNat / 4 + r.count.toNat - 1 ∧ r.count ≠ 0
        ∧ ∀ j, j < i → ∀ q, s.region j = some q →
            ¬ (q.base.toNat / 4 ≤ w.toNat ∧ w.toNat < q.base.toNat / 4 + q.count.toNat)

/-- A disallowed size, and after it a half on lanes 1 and 2 under NATURAL, are answered REFUSED with SHAPE_FAULT,
whatever the entry's actions and policies; a write's shape fault breaks sequences (R5, R26, R34). The size of a mask is
the length of its run (Table 2-4), the allowed sizes are the entry's three flags, no other access has a shape fault, and
the event holds the fields of Table 2-6. -/
def Obligations.ShapeFaultRefused : Prop :=
  (∀ (lanes : Lanes) (size : AccessSize), laneSize lanes = some size ↔ lanes ∈ (match size with
    | .byte => [0b0001, 0b0010, 0b0100, 0b1000]
    | .half => [0b0011, 0b0110, 0b1100]
    | .word => [0b1111] : List Lanes))
  ∧ (∀ r : Region, r.allows .byte = r.allowByte ∧ r.allows .half = r.allowHalf ∧ r.allows .word = r.allowWord)
  ∧ (∀ (r : Region) (lanes : Lanes) (size : AccessSize), laneSize lanes = some size →
    (r.shapeFault lanes = none ↔ r.allows size = true ∧ (r.natural = true → lanes ≠ 0b0110)))
  ∧ ∀ (req : HostRequest) (i : RegionIndex) (r : Region) (size : AccessSize) (reason : Reason) (s : State),
    Accepted req s → s.mode = .enforce → s.governing req.word = some (i, r) → laneSize req.lanes = some size →
    (r.allows size = false ∧ reason = .size
      ∨ r.allows size = true ∧ r.natural = true ∧ req.lanes = 0b0110 ∧ reason = .align) →
    let event : Event :=
      { kind := .shapeFault, reason := some reason, region := some i, access := some ⟨req.tag, req.kind, req.lanes⟩,
        word := some req.word,
        attempted := if req.kind = .write then some (req.data &&& laneBits req.lanes) else none }
    (req.kind = .read → exec (.arrival req) s = .next
      (State.appendEvent event
        { s with answers := s.answers ++ [⟨req.tag, .refused, 0⟩] }))
    ∧ (req.kind = .write → ∃ t, exec (.arrival req) s = .next t
      ∧ BreaksSequences [i] [event]
          { s with answers := s.answers ++ [⟨req.tag, .refused, 0⟩] } t)

/-- The four read actions: PASS and NOTE reads enter the table, SUBSTITUTE and REFUSE reads are answered at the arrival
(R6, R27, R28), with events of the fields of Table 2-6 (R35). That the record of a read holds zero as its data is the
model's choice of log entry 17. -/
def Obligations.WatchedReadActions : Prop :=
  ∀ (req : HostRequest) (i : RegionIndex) (r : Region) (s : State), Watched req i r s → req.kind = .read →
    let event (kind : EventKind) (reference : Option Word) : Event :=
      { kind := kind, region := some i, access := some ⟨req.tag, .read, req.lanes⟩, word := some req.word,
        reference := reference }
    (r.readAction = .pass → exec (.arrival req) s = .next (State.arbitrate
      { s with table := s.table ++ [s.entryOf req (.watchedRead .pass i) false none none] }))
    ∧ (r.readAction = .note → exec (.arrival req) s = .next
      (State.appendEvent (event .readNoted none) (State.arbitrate
        { s with table := s.table ++ [s.entryOf req (.watchedRead .note i) false none none] })))
    ∧ (r.readAction = .substitute → exec (.arrival req) s = .next
      (State.appendEvent
        (event .readSubstituted (some (r.fill &&& laneBits req.lanes)))
        { s with answers := s.answers ++ [⟨req.tag, .okay, r.fill &&& laneBits req.lanes⟩] }))
    ∧ (r.readAction = .refuse → exec (.arrival req) s = .next
      (State.appendEvent (event .readRefused none)
        { s with answers := s.answers ++ [⟨req.tag, .refused, 0⟩] }))

/-- A watched write that is not refused at its arrival enters the table with its snapshot: needing a verify read (R31),
passing, with a note where the flag asks for it (R32), or refused under NOTE with its pass note (R33); the note holds the
fields of Table 2-6 (R35). -/
def Obligations.WatchedWriteEnters : Prop :=
  ∀ (req : HostRequest) (i : RegionIndex) (r : Region) (s : State), Watched req i r s → req.kind = .write →
    let snap := s.snapshot i r
    let event (reason : Reason) : Event :=
      { kind := .writeNoted, reason := some reason, region := some i, access := some ⟨req.tag, .write, req.lanes⟩,
        word := some req.word, attempted := some (req.data &&& laneBits req.lanes) }
    (needsVerifyRead snap req.lanes = true → exec (.arrival req) s = .next (State.arbitrate
      { s with table := s.table ++ [s.entryOf req (.watchedWrite snap) true snap.policy.companion none] }))
    ∧ (needsVerifyRead snap req.lanes = false → judge snap req.lanes req.data 0 = .pass → r.writeNote = false →
      exec (.arrival req) s = .next (State.arbitrate
        { s with table := s.table ++ [s.entryOf req (.watchedWrite snap) false none none] }))
    ∧ (needsVerifyRead snap req.lanes = false → judge snap req.lanes req.data 0 = .pass → r.writeNote = true →
      exec (.arrival req) s = .next
        (State.appendEvent (event .passing) (State.arbitrate
          { s with table := s.table ++ [s.entryOf req (.watchedWrite snap) false none none] })))
    ∧ ∀ reason, needsVerifyRead snap req.lanes = false → judge snap req.lanes req.data 0 = .refuse reason →
      r.violation = .note →
      exec (.arrival req) s = .next
        (State.appendEvent (event reason) (State.arbitrate
          { s with table := s.table ++ [s.entryOf req (.watchedWrite snap) false none (some reason)] }))

/-- A write refused at its arrival under QUIET or ERROR is answered OKAY or REFUSED, logged WRITE_REFUSED, and its
refusal notice breaks sequences; nothing of it enters the table (R33, R34). The event holds the fields of Table 2-6
(R35). -/
def Obligations.WriteRefusedAtArrival : Prop :=
  ∀ (req : HostRequest) (i : RegionIndex) (r : Region) (reason : Reason) (s : State),
    Watched req i r s → req.kind = .write →
    needsVerifyRead (s.snapshot i r) req.lanes = false →
    judge (s.snapshot i r) req.lanes req.data 0 = .refuse reason → r.violation ≠ .note →
    ∃ t, exec (.arrival req) s = .next t
      ∧ BreaksSequences [i]
          [{ kind := .writeRefused, reason := some reason, region := some i,
             access := some ⟨req.tag, .write, req.lanes⟩, word := some req.word,
             attempted := some (req.data &&& laneBits req.lanes) }]
          { s with answers := s.answers ++
              [⟨req.tag, if r.violation = .quiet then .okay else .refused, 0⟩] } t

/-- The snapshot of a write that enters is the governing entry's at the arrival, with the policy its group's state
selects (R11, R18, R29, R30). -/
def Obligations.NewWriteCarriesItsSnapshot : Prop :=
  ∀ (req : HostRequest) (s t : State) (x : Txn) (snap : Snapshot), exec (.arrival req) s = .next t →
    x ∈ t.table → (∀ y ∈ s.table, y.htag ≠ x.htag) → x.classification = .watchedWrite snap →
    s.mode = .enforce ∧ req.kind = .write ∧ ∃ r, s.governing req.word = some (snap.region, r)
      ∧ snap.width = r.width ∧ snap.signed = r.signed ∧ snap.violation = r.violation ∧ snap.writeNote = r.writeNote
      ∧ snap.policy = match r.group.map s.group with
        | none => .entry r.primary
        | some .closed => .entry r.primary
        | some (.opened _) => .entry (r.alternate.getD r.primary)
        | some .frozen => .groupFrozen

/-- No command changes what a record was entered with: its request, its classification with the snapshot, its need of a
verify read and its touched words. New records come from arrivals alone (R14, R25, R30, R61). -/
def Obligations.RecordsKeepTheirClassification : Prop :=
  ∀ (c : Instr) (s t : State), exec c s = .next t → ∀ x ∈ t.table,
    (∃ y ∈ s.table, y.htag = x.htag ∧ y.kind = x.kind ∧ y.word = x.word ∧ y.lanes = x.lanes ∧ y.data = x.data
      ∧ y.classification = x.classification ∧ y.needsVerify = x.needsVerify ∧ y.touched = x.touched
      ∧ y.companion = x.companion)
    ∨ ∃ req, c = .arrival req ∧ x.htag = req.tag ∧ x.kind = req.kind ∧ x.word = req.word ∧ x.lanes = req.lanes
        ∧ ∀ y ∈ s.table, y.htag ≠ req.tag

/-! ### Verdicts -/

/-- The verdict reads the bytes of the named lanes alone, and the verify word only where a verify read is needed (R36,
R38, R40, R41, Table 3-2). FREE passes every write, FROZEN refuses every write with FROZEN and the group-frozen policy with
GROUP_FROZEN, all three at the arrival and with no word to read (R10, R31, R43). -/
def Obligations.VerdictInputs : Prop :=
  ∀ (snap : Snapshot) (lanes : Lanes) (data v : Word),
    judge snap lanes (data &&& laneBits lanes) v = judge snap lanes data v
    ∧ (needsVerifyRead snap lanes = false → ∀ v', judge snap lanes data v = judge snap lanes data v')
    ∧ ∀ verdict : Verdict,
      (snap.policy = .entry .free ∧ verdict = .pass ∨ snap.policy = .entry .frozen ∧ verdict = .refuse .frozen
        ∨ snap.policy = .groupFrozen ∧ verdict = .refuse .groupFrozen) →
      judge snap lanes data v = verdict ∧ arrivalVerdict snap lanes data = some verdict
        ∧ needsVerifyRead snap lanes = false ∧ snap.policy.companion = none

/-- BOUNDED passes a write exactly when every touched element's new value lies between the bounds, and refuses it with
OUT_OF_RANGE otherwise; it takes a verify read, of the target, exactly where the write touches a partial element (R44,
R45, Table 3-2). The elements of a word: element k covers the lanes l with l ÷ size = k, is touched where one of them is
written and partial where another of them is not; its value is the number of its lanes under the signedness, and the
element range is that of the width and the signedness (R3, R4, Table 1-2). A merged word has the written byte in each named
lane and the verify word's byte in each other (R41), and a bound is read under the signedness (R8). -/
def Obligations.BoundedVerdict : Prop :=
  (∀ (w : ElementWidth) (lanes : Lanes),
    let size := match w with
      | .w8 => 1
      | .w16 => 2
      | .w32 => 4
    (∀ k, k ∈ touchedElements w lanes ↔ ∃ l, l < 4 ∧ l / size = k ∧ lanes.getLsbD l = true)
    ∧ (touchedElements w lanes).Pairwise (· < ·)
    ∧ (touchesPartial w lanes = true ↔
      ∃ l l', l < 4 ∧ l' < 4 ∧ l / size = l' / size ∧ lanes.getLsbD l = true ∧ lanes.getLsbD l' = false)
    ∧ (∀ signed word k, elementValue w signed word k =
      if signed = true then (word.extractLsb' (8 * size * k) (8 * size)).toInt
      else (word.extractLsb' (8 * size * k) (8 * size)).toNat)
    ∧ ∀ signed v, inElementRange w signed v = true ↔
      if signed = true then -(2 ^ (8 * size - 1)) ≤ v ∧ v ≤ 2 ^ (8 * size - 1) - 1
      else 0 ≤ v ∧ v ≤ 2 ^ (8 * size) - 1)
  ∧ (∀ (lanes : Lanes) (data old : Word) (i : Nat), i < 32 → (mergeLanes lanes data old).getLsbD i =
    if lanes.getLsbD (i / 8) = true then data.getLsbD i else old.getLsbD i)
  ∧ (∀ (signed : Bool) (p : Word), paramValue signed p = if signed = true then p.toInt else p.toNat)
  ∧ ∀ (snap : Snapshot) (lo hi : Word) (lanes : Lanes) (data v : Word), snap.policy = .entry (.bounded lo hi) →
    let value k := elementValue snap.width snap.signed (mergeLanes lanes data v) k
    let inside := ∀ k ∈ touchedElements snap.width lanes,
      paramValue snap.signed lo ≤ value k ∧ value k ≤ paramValue snap.signed hi
    (judge snap lanes data v = .pass ↔ inside) ∧ (judge snap lanes data v = .refuse .outOfRange ↔ ¬ inside)
    ∧ (needsVerifyRead snap lanes = true ↔ touchesPartial snap.width lanes = true) ∧ snap.policy.companion = none

/-- The step of an element (R46): it is congruent to the difference of the values and lies in the signed range of the
width, is 0 for an unchanged element, and is the same under either signedness. For values in the element range, the old
value plus the step stays in the range exactly when it equals the new value (R48). -/
def Obligations.StepOfAnElement : Prop :=
  ∀ (w : ElementWidth) (old new : Word) (k : Nat),
    (∀ signed, let o := elementValue w signed old k
      let n := elementValue w signed new k
      (2 ^ w.bits : Int) ∣ (n - o) - stepOf w o n
      ∧ -(2 ^ (w.bits - 1)) ≤ stepOf w o n ∧ stepOf w o n ≤ 2 ^ (w.bits - 1) - 1
      ∧ (n = o → stepOf w o n = 0)
      ∧ (inElementRange w signed (o + stepOf w o n) = true ↔ o + stepOf w o n = n))
    ∧ stepOf w (elementValue w true old k) (elementValue w true new k)
        = stepOf w (elementValue w false old k) (elementValue w false new k)

/-- STEPPED passes a write exactly when every touched element passes the step check and, under WRAP_FORBID, the wrap
check; it refuses it with the reason of the lowest-numbered touched element that fails. It always takes a verify read, of
the target (R47, R48, R49, R53). -/
def Obligations.SteppedVerdict : Prop :=
  ∀ (snap : Snapshot) (lo hi : Word) (wrapAllow : Bool) (lanes : Lanes) (data v : Word),
    snap.policy = .entry (.stepped lo hi wrapAllow) →
    let o k := elementValue snap.width snap.signed v k
    let d k := stepOf snap.width (o k) (elementValue snap.width snap.signed (mergeLanes lanes data v) k)
    let steps k := lo.toInt ≤ d k ∧ d k ≤ hi.toInt
    let wraps k := wrapAllow = false ∧ inElementRange snap.width snap.signed (o k + d k) = false
    let touched k := k ∈ touchedElements snap.width lanes
    (judge snap lanes data v = .pass ↔ ∀ k, touched k → steps k ∧ ¬ wraps k)
    ∧ (∀ reason, judge snap lanes data v = .refuse reason ↔
        ∃ k, touched k ∧ (¬ steps k ∧ reason = .stepOut ∨ steps k ∧ wraps k ∧ reason = .stepWrap)
          ∧ ∀ j, touched j → j < k → steps j ∧ ¬ wraps j)
    ∧ needsVerifyRead snap lanes = true ∧ arrivalVerdict snap lanes data = none ∧ snap.policy.companion = none

/-- GATED passes a write exactly when the verify word meets the gate of its flag, and refuses it with GATE_CLOSED
otherwise, whatever the written lanes and data and the element geometry; it always takes a verify read, of the
companion (R50). -/
def Obligations.GatedVerdict : Prop :=
  ∀ (snap : Snapshot) (companion : BitVec 32) (nonzero : Bool) (lanes : Lanes) (data v : Word),
    snap.policy = .entry (.gated companion nonzero) →
    (nonzero = false → judge snap lanes data v = if v = 0 then .pass else .refuse .gateClosed)
    ∧ (nonzero = true → judge snap lanes data v = if v ≠ 0 then .pass else .refuse .gateClosed)
    ∧ needsVerifyRead snap lanes = true ∧ arrivalVerdict snap lanes data = none
    ∧ snap.policy.companion = some (companion.extractLsb' 2 30)

/-- The verdict reads nothing at the verdict event: a response to a verify read does the same whatever the region table,
the groups and the unit mode are by then (R14, R37). -/
def Obligations.VerdictIgnoresTheConfiguration : Prop :=
  ∀ (resp : MemResponse) (a : ActiveTag) (s : State) (regions : Vector (Option Region) 32) (groups : Vector Group 4)
    (mode : UnitMode), s.tag resp.tag = .active a → a.purpose = .verify →
    ∃ t, exec (.mportResponseTaken resp) s = .next t
      ∧ exec (.mportResponseTaken resp) { s with regions := regions, groups := groups, mode := mode }
          = .next { t with regions := regions, groups := groups, mode := mode }

/-! ### The transaction table -/

/-- A promotion makes READY exactly the WAITING records that no earlier record and no orphaned tag blocks (R63, R65,
R66), and changes nothing else. The words orphaned tags hold back are those they carry (R93), and the touched words of a
request are its own and, where it differs, its companion's (R30, R51, R52). -/
def Obligations.PromotionRule : Prop :=
  (∀ (s : State) (w : WordAddr), w ∈ s.orphanWords ↔ ∃ m o, s.tag m = .orphaned o ∧ o.word = w)
  ∧ (∀ w c : WordAddr, touchedWords w none = [w] ∧ touchedWords w (some w) = [w]
    ∧ (c ≠ w → touchedWords w (some c) = [w, c]))
  ∧ ∀ s : State, s.promote = { s with table := s.promote.table } ∧ s.promote.table.length = s.table.length
    ∧ ∀ (older younger : List Txn) (x : Txn), s.table = older ++ x :: younger →
      (x.state = .waiting → (∀ w ∈ x.touched, w ∉ s.orphanWords ∧ ∀ y ∈ older, w ∉ y.touched) →
        s.promote.table[older.length]? = some { x with state := .ready })
      ∧ ((x.state ≠ .waiting ∨ ∃ w ∈ x.touched, w ∈ s.orphanWords ∨ ∃ y ∈ older, w ∈ y.touched) →
        s.promote.table[older.length]? = some x)

/-- The arbiter gives the oldest candidate the FREE tag of lowest number and puts its request on offer, with a hold slot
where it takes a verify read; it makes no grant where the port is RESETTING, a request is on offer, no record is a
candidate or no tag is FREE (R68 to R71). -/
def Obligations.ArbiterRule : Prop :=
  ∀ s : State,
    (∀ (x : Txn) (m : MTag), s.port = .ready → s.onOffer = none → OldestCandidate s x → LowestFree s m →
      (x.state = .ready → x.needsVerify = true → s.arbitrate =
        { (s.setTag m (.active ⟨.verify, x.companion.getD x.word, x.htag, none⟩)).updateTxn x.htag
            (fun y => { y with state := .verifying, holdSlot := true, mtag := some m }) with onOffer := some m })
      ∧ ((x.state = .issuePending ∨ x.needsVerify = false) → s.arbitrate =
        { (s.setTag m (.active ⟨if x.kind = .read then .forwardRead else .forwardWrite, x.word, x.htag, none⟩)).updateTxn
            x.htag (fun y => { y with state := .issued, mtag := some m }) with onOffer := some m }))
    ∧ ((s.port ≠ .ready ∨ s.onOffer ≠ none ∨ (∀ x ∈ s.table, ¬ Candidate s x) ∨ ∀ m, s.tag m ≠ .free) →
      s.arbitrate = s)

/-- The heads of the queues: ANSWER_TAKEN takes the oldest answer (R21); DELIVERY removes the record at the head of the
delivery queue, with its hold slot, and lets records become READY and the arbiter look (R77, R78);
MPORT_REQUEST_TAKEN starts the timer of the request on offer with the limit of its purpose, and the arbiter looks
(R86). What stands offered: the response of the delivery queue's head with its H-tag (R77); at the M-port a verify read
of the tag's word with all four lanes, or the forward of the owning record's request, the data of a read being zero
(R82). MRST_N is asserted during the M-port reset, a line reset and power-on reset (R96, R100, R101). That the row has no
effect where nothing waits to be taken is log entry 1. -/
def Obligations.QueueHeadsAreTaken : Prop :=
  ∀ s : State,
    (∀ a rest, s.answers = a :: rest →
      s.answerReady = some a ∧ exec .answerTaken s = .next { s with answers := rest })
    ∧ (∀ h rest, s.deliveries = h :: rest →
      exec .delivery s = .next (State.arbitrate (State.promote
        { s with deliveries := rest, table := s.table.filter (fun x => x.htag != h) })))
    ∧ (∀ m a, s.onOffer = some m → s.tag m = .active a →
      exec .mportRequestTaken s = .next (State.arbitrate
        { s.setTag m (.active { a with taken := some (s.timeBase,
            if a.purpose = .verify then s.timing.verifyLimit else s.timing.forwardLimit) }) with onOffer := none }))
    ∧ (s.answers = [] → s.answerReady = none ∧ exec .answerTaken s = .next s)
    ∧ (s.deliveries = [] → exec .delivery s = .next s) ∧ (s.onOffer = none → exec .mportRequestTaken s = .next s)
    ∧ (s.deliveries = [] → s.deliveryReady = none)
    ∧ (∀ h rest x status data, s.deliveries = h :: rest → s.txn? h = some x → x.response = some (status, data) →
      s.deliveryReady = some ⟨h, status, data⟩)
    ∧ (s.onOffer = none → s.mportRequest = none)
    ∧ (∀ m a, s.onOffer = some m → s.tag m = .active a →
      (a.purpose = .verify → s.mportRequest = some ⟨m, .read, a.word, 0b1111, 0⟩)
      ∧ (a.purpose ≠ .verify → ∀ x, s.txn? a.owner = some x →
        s.mportRequest = some ⟨m, x.kind, x.word, x.lanes, if x.kind = .write then x.data else 0⟩))
    ∧ (s.mrstAsserted = true ↔ s.port ≠ .ready ∨ s.rstAsserted = true ∨ s.powerOn = true)

/-! ### The memory port -/

/-- A response is discarded while the port is RESETTING or RST_N is asserted, and not taken during power-on reset
(R84); one that names a FREE tag, or an ACTIVE tag whose request memory has not taken, is a stray (R89). -/
def Obligations.ResponseDiscardedOrStray : Prop :=
  ∀ (resp : MemResponse) (s : State),
    ((s.port ≠ .ready ∨ s.rstAsserted = true ∨ s.powerOn = true) → exec (.mportResponseTaken resp) s = .next s)
    ∧ (s.port = .ready → LinkUp s →
      (s.tag resp.tag = .free ∨ ∃ a, s.tag resp.tag = .active a ∧ a.taken = none) →
      exec (.mportResponseTaken resp) s = .next (State.appendEvent
        { kind := .lateResponse, reason := if resp.status = .error then some .error else none }
        { s with latches := { s.latches with memory := true } }))

/-- An OKAY response to a forward forms the record's OKAY response and frees the tag, the arbiter looks, and the matchers
are told where the record carries a region index (R74, R87). -/
def Obligations.ForwardCompletes : Prop :=
  ∀ (resp : MemResponse) (a : ActiveTag) (x : Txn) (s : State),
    s.port = .ready → LinkUp s → resp.status = .okay → s.tag resp.tag = .active a → a.taken.isSome = true →
    a.purpose ≠ .verify → s.txn? a.owner = some x →
    let done := State.arbitrate
      { (s.setTag resp.tag .free).updateTxn x.htag
          (fun y => y.answered .okay (if x.kind = .read then resp.data else 0)) with
        deliveries := s.deliveries ++ [x.htag] }
    (x.region? = none → exec (.mportResponseTaken resp) s = .next done)
    ∧ ∀ i, x.region? = some i → exec (.mportResponseTaken resp) s = .next
        (done.giveCompletion ⟨x.kind, i, x.lanes, if x.kind = .read then resp.data else x.data⟩)

/-- A forward that ends in ERROR, or whose limit expires, is answered FAULT and reported with the pass note as its
reason, and MEMORY is latched; the tag is freed by the response and orphaned by the expiry (R75, R88, R91). -/
def Obligations.ForwardFails : Prop :=
  ∀ (m : MTag) (a : ActiveTag) (x : Txn) (s : State),
    s.tag m = .active a → a.purpose ≠ .verify → s.txn? a.owner = some x →
    let failed (e : TagEntry) (kind : EventKind) : State :=
      State.appendEvent
        { kind := kind, reason := x.passNote, region := x.region?, access := some ⟨x.htag, x.kind, x.lanes⟩,
          word := some x.word,
          attempted := if x.kind = .write then some (x.data &&& laneBits x.lanes) else none }
        (State.latch .memory (State.arbitrate
          { (s.setTag m e).updateTxn x.htag (fun y => y.answered .fault 0) with
            deliveries := s.deliveries ++ [x.htag] }))
    (∀ data, s.port = .ready → LinkUp s → a.taken.isSome = true →
      exec (.mportResponseTaken ⟨m, .error, data⟩) s = .next (failed .free .forwardFault))
    ∧ ∀ start limit, a.taken = some (start, limit) → limit.toNat ≤ (s.timeBase - start).toNat →
      exec (.forwardLimitExpiry m) s = .next
        (failed (.orphaned ⟨a.purpose, a.word, x.htag, x.lanes, x.region?⟩) .forwardTimeout)

/-- A verify read that ends in ERROR, or whose limit expires, gives the write FAULT without a verdict, VERIFY_FAULT and a
refusal notice, and MEMORY is latched; the tag is freed by the response and orphaned by the expiry (R57, R59, R73, R88,
R90). -/
def Obligations.VerifyFails : Prop :=
  ∀ (m : MTag) (a : ActiveTag) (x : Txn) (s : State),
    s.tag m = .active a → a.purpose = .verify → s.txn? a.owner = some x →
    let event (reason : Reason) : Event :=
      { kind := .verifyFault, reason := some reason, region := x.region?,
        access := some ⟨x.htag, x.kind, x.lanes⟩, word := some a.word,
        attempted := if x.kind = .write then some (x.data &&& laneBits x.lanes) else none }
    let failed (e : TagEntry) : State :=
      State.latch .memory (State.arbitrate
        { (s.setTag m e).updateTxn x.htag (fun y => y.answered .fault 0) with
          deliveries := s.deliveries ++ [x.htag] })
    (∀ data, s.port = .ready → LinkUp s → a.taken.isSome = true →
      ∃ t, exec (.mportResponseTaken ⟨m, .error, data⟩) s = .next t
        ∧ BreaksSequences x.region?.toList [event .error] (failed .free) t)
    ∧ ∀ start limit, a.taken = some (start, limit) → limit.toNat ≤ (s.timeBase - start).toNat →
      ∃ t, exec (.verifyLimitExpiry m) s = .next t
        ∧ BreaksSequences x.region?.toList [event .timeout]
            (failed (.orphaned ⟨a.purpose, a.word, x.htag, x.lanes, x.region?⟩)) t

/-- The verdict event of a write that goes on to its forward: its verify word is kept, the tag is freed, it moves to
ISSUE_PENDING with its hold slot, and it is noted where its flag or a refusal under NOTE asks for it (R54, R56, R58,
R72). -/
def Obligations.VerifiedWriteGoesOn : Prop :=
  ∀ (resp : MemResponse) (a : ActiveTag) (x : Txn) (snap : Snapshot) (s : State),
    s.port = .ready → LinkUp s → resp.status = .okay → s.tag resp.tag = .active a → a.taken.isSome = true →
    a.purpose = .verify → s.txn? a.owner = some x → x.kind = .write → x.classification = .watchedWrite snap →
    let event (reason : Reason) : Event :=
      { kind := .writeNoted, reason := some reason, region := some snap.region,
        access := some ⟨x.htag, .write, x.lanes⟩, word := some x.word,
        attempted := some (x.data &&& laneBits x.lanes), reference := some resp.data }
    let pending (note : Option Reason → Option Reason) : State :=
      State.arbitrate ((s.setTag resp.tag .free).updateTxn x.htag (fun y =>
        { y with verifyWord := some resp.data, state := .issuePending, mtag := none, passNote := note y.passNote }))
    (judge snap x.lanes x.data resp.data = .pass → snap.writeNote = false →
      exec (.mportResponseTaken resp) s = .next (pending id))
    ∧ (judge snap x.lanes x.data resp.data = .pass → snap.writeNote = true →
      exec (.mportResponseTaken resp) s = .next (State.appendEvent (event .passing) (pending id)))
    ∧ ∀ reason, judge snap x.lanes x.data resp.data = .refuse reason → snap.violation = .note →
      exec (.mportResponseTaken resp) s = .next
        (State.appendEvent (event reason) (pending (fun _ => some reason)))

/-- The verdict event of a write refused under QUIET or ERROR: it is answered OKAY or REFUSED with data zero, keeps its
hold slot, is logged WRITE_REFUSED with its verify word, and gives its refusal notice (R55, R58, R59, R72). -/
def Obligations.VerifiedWriteRefused : Prop :=
  ∀ (resp : MemResponse) (a : ActiveTag) (x : Txn) (snap : Snapshot) (reason : Reason) (s : State),
    s.port = .ready → LinkUp s → resp.status = .okay → s.tag resp.tag = .active a → a.taken.isSome = true →
    a.purpose = .verify → s.txn? a.owner = some x → x.kind = .write → x.classification = .watchedWrite snap →
    judge snap x.lanes x.data resp.data = .refuse reason → snap.violation ≠ .note →
    ∃ t, exec (.mportResponseTaken resp) s = .next t
      ∧ BreaksSequences [snap.region]
          [{ kind := .writeRefused, reason := some reason, region := some snap.region,
             access := some ⟨x.htag, .write, x.lanes⟩, word := some x.word,
             attempted := some (x.data &&& laneBits x.lanes), reference := some resp.data }]
          (State.arbitrate
            { (s.setTag resp.tag .free).updateTxn x.htag (fun y => Txn.answered { y with verifyWord := some resp.data }
                (if snap.violation = .quiet then .okay else .refused) 0) with
              deliveries := s.deliveries ++ [x.htag] }) t

/-- A late response on an orphan frees the tag and is reported, MEMORY is latched, and the records the orphan alone
blocked become READY; the freed tag goes to the oldest candidate after that change or, where the spec lets the freeing
come first (R69), to the oldest before it (R93). That a free value chooses between the two is log entry 4. -/
def Obligations.LateResponseFreesTheOrphan : Prop :=
  ∀ (resp : MemResponse) (o : OrphanTag) (s : State),
    s.port = .ready → LinkUp s → s.tag resp.tag = .orphaned o →
    let freed := s.setTag resp.tag .free
    let counted := { freed.promote with choices := s.choices + 1 }
    ∃ u, exec (.mportResponseTaken resp) s = .next (State.appendEvent
        { kind := .lateResponse, reason := if resp.status = .error then some .error else none, region := o.region,
          access := some ⟨o.htag, if o.purpose = .forwardWrite then .write else .read, o.lanes⟩,
          word := some o.word,
          reference := if resp.status = .okay ∧ o.purpose ≠ .forwardWrite then some resp.data else none }
        (State.latch .memory u))
      ∧ (u = freed.promote.arbitrate ∨ u = counted.arbitrate
        ∨ ∃ x m, OldestCandidate freed x ∧ LowestFree freed m ∧ freed.promote.mayGrant = true
            ∧ u = counted.grantTo x m)

/-- RESET_MPORT answers every record with an ACTIVE tag FAULT, in arrival order, frees every tag, withdraws the offer and
runs for 8 µs, with a refusal notice for each record moved from VERIFYING (R59, R76, R96, R97); it is refused BUSY
while the port is RESETTING; at its end the port is READY, grants resume and MPORT_RESET_DONE tells the count (R99). That
the row RESET_MPORT stands for its frame is log entry 10. -/
def Obligations.MportReset : Prop :=
  ∀ s : State,
    (LinkUp s → s.port = .ready →
      ∃ t, exec .resetMport s = .next t
        ∧ BreaksSequences
            ((s.table.filter (fun x => x.mtag.isSome && x.state == .verifying)).filterMap Txn.region?) []
            (State.promote
              { s with
                taking := false
                frame := .output .resetMport .turnaround .done []
                table := s.table.map (fun x => if x.mtag.isSome then x.answered .fault 0 else x)
                deliveries := s.deliveries ++ (s.table.filter (fun x => x.mtag.isSome)).map Txn.htag
                mtags := Vector.replicate 8 .free
                onOffer := none
                port := .resetting (s.timeBase + 8) (s.table.filter (fun x => x.mtag.isSome)).length }) t)
    ∧ (LinkUp s → s.port ≠ .ready → exec .resetMport s = .next (s.answered .resetMport .busy []))
    ∧ ∀ n, s.port = .resetting s.timeBase n →
      exec .mportResetEnd s = .next (State.appendEvent { kind := .mportResetDone, count := some (BitVec.ofNat 16 n) }
        (State.latch .memory (State.arbitrate { s with port := .ready })))

/-- The laws of the table give its bounds: at most 16 records, no more queued responses than records, and no two M-tags in
use with the same word (R60, R77, R85). -/
def Obligations.TableBounds : Prop :=
  ∀ s : State, TableSound s → s.table.length ≤ 16 ∧ s.deliveries.length ≤ s.table.length ∧ DistinctTagWords s

/-! ### Matchers and the reset output -/

/-- What a matcher does with a completion notice (R120 to R123, R126): one that is not relevant leaves it; the expected
step advances it with a fresh deadline, or completes it on its last step; any other breaks a sequence in progress and
is tested against step 1. The second part is the progress it lapsed from, the third tells of completion. A refusal notice
is relevant where its region appears in any step (R121). -/
def Obligations.MatcherTakesCompletion : Prop :=
  (∀ (m : Matcher) (i : RegionIndex), m.relevantRefusal i = true ↔ ∃ x ∈ m.defn.steps, x.region = i)
  ∧ ∀ (m : Matcher) (n : Notice) (now : Time) (first st : SeqStep), m.Sound →
    m.defn.steps[0]? = some first → m.defn.steps[m.progress]? = some st →
    let deadline := some (now + BitVec.ofNat 32 (m.defn.gap.toNat * 1000))
    let relevant := ∃ x ∈ m.defn.steps, x.kind = n.kind ∧ x.region = n.region
    (¬ relevant → m.takeCompletion n now = (m, none, false))
    ∧ (st.Matches n → m.progress + 1 < m.defn.steps.length →
      m.takeCompletion n now = ({ m with progress := m.progress + 1, deadline := deadline }, none, false))
    ∧ (st.Matches n → m.progress + 1 = m.defn.steps.length →
      m.takeCompletion n now = ({ m with progress := 0, deadline := none }, none, true))
    ∧ (relevant → ¬ st.Matches n → m.progress = 0 → m.takeCompletion n now = (m, none, false))
    ∧ (relevant → ¬ st.Matches n → m.progress ≠ 0 → first.Matches n →
      m.takeCompletion n now = ({ m with progress := 1, deadline := deadline }, some m.progress, false))
    ∧ (relevant → ¬ st.Matches n → m.progress ≠ 0 → ¬ first.Matches n →
      m.takeCompletion n now = ({ m with progress := 0, deadline := none }, some m.progress, false))

/-- A completion notice moves every matcher by its own rule, latches SEQUENCE exactly when one completes, and reaches
nothing but the matchers, the groups, the pulse, the log and the latches (R119, R126). A matcher whose sequence the notice
breaks appends SEQUENCE_LAPSED BROKEN with its index, the notice's region and the progress it had (R123, R128), and one
that completes appends SEQUENCE_DONE and then makes the request of its action (R126, R127); all the matchers' requests
are taken, each matcher's own in its order. -/
def Obligations.CompletionMovesEveryMatcher : Prop :=
  ∀ (n : Notice) (s : State), let t := s.giveCompletion n
    (∀ i, t.matcher i = (s.matcher i).map (fun m => (m.takeCompletion n s.timeBase).1))
    ∧ (t.latches.sequence = true ↔ s.latches.sequence = true
        ∨ ∃ i m, s.matcher i = some m ∧ (m.takeCompletion n s.timeBase).2.2 = true)
    ∧ t.latches.memory = s.latches.memory
    ∧ t = { s.logFrom t with groups := t.groups, matchers := t.matchers, pulse := t.pulse, choices := t.choices }
    ∧ (let requests (i : MatcherIndex) : List Request := match s.matcher i with
        | none => []
        | some m =>
          (match (m.takeCompletion n s.timeBase).2.1 with
            | none => []
            | some progress =>
              [.append { kind := .sequenceLapsed, reason := some .broken, region := some n.region, matcher := some i,
                         count := some (BitVec.ofNat 16 progress) }])
          ++ if (m.takeCompletion n s.timeBase).2.2 = true then
              .append { kind := .sequenceDone, region := some n.region, matcher := some i,
                        count := some (BitVec.ofNat 16 m.defn.steps.length) }
                :: match m.defn.action with
                  | .noteOnly => []
                  | .resetPulse => [.startPulse]
                  | .openWindow g d => [.openGroup g d i]
                  | .freezeGroup g => [.freezeGroup g i]
            else []
      ∃ (order : List Request) (k : Nat) (sequence : Bool),
        TakenInOrder ((List.finRange 4).map requests) order
        ∧ (sequence = true ↔ s.latches.sequence = true
          ∨ ∃ i m, s.matcher i = some m ∧ (m.takeCompletion n s.timeBase).2.2 = true)
        ∧ t = order.foldl State.perform
            { s with
              matchers := s.matchers.map (Option.map (fun m => (m.takeCompletion n s.timeBase).1))
              latches := { s.latches with sequence := sequence }
              choices := k })

/-- One matcher's completion (R126, R127, R130): SEQUENCE_DONE with its step count, then its action: a pulse that is
started or restarted for the pulse length, a window or a freeze (R111, R112). The requests one by one, whatever the other
matchers hold: an append, the pulse, and the open and freeze requests of a matcher in each state of the group, whose
events carry the matcher's index (R105, R107). -/
def Obligations.CompletionPerformsTheAction : Prop :=
  (∀ (s : State) (i : MatcherIndex) (g : GroupIndex) (d : BitVec 16),
    let expiry := s.timeBase + BitVec.ofNat 32 (d.toNat * 1000)
    let event (kind : EventKind) (reason : Option Reason) : Event :=
      { kind := kind, reason := reason, matcher := some i, group := some g, count := some d }
    let frozen := State.appendEvent { kind := .groupFrozen, matcher := some i, group := some g } (s.setGroup g .frozen)
    (∀ e, s.perform (.append e) = s.appendEvent e)
    ∧ s.perform .startPulse =
        { s with pulse := some (s.timeBase + BitVec.ofNat 32 (s.timing.pulseLength.toNat * 1000)) }
    ∧ s.perform (.openGroup g d i) = s.openGroup g d (some i)
    ∧ s.perform (.freezeGroup g i) = s.freezeGroup g (some i)
    ∧ (s.group g = .closed →
      s.openGroup g d (some i) = State.appendEvent (event .windowOpened none) (s.setGroup g (.opened expiry))
        ∧ s.freezeGroup g (some i) = frozen)
    ∧ (∀ e, s.group g = .opened e →
      s.openGroup g d (some i) = State.appendEvent (event .windowOpened (some .extended))
          (if (e - s.timeBase).toNat < d.toNat * 1000 then s.setGroup g (.opened expiry) else s)
        ∧ s.freezeGroup g (some i) = frozen)
    ∧ (s.group g = .frozen →
      s.openGroup g d (some i) = State.appendEvent (event .windowRefused none) s
        ∧ s.freezeGroup g (some i) = s))
  ∧ ∀ (n : Notice) (i : MatcherIndex) (m : Matcher) (s : State),
    s.matcher i = some m → (∀ j, j ≠ i → s.matcher j = none) → m.Sound →
    (m.takeCompletion n s.timeBase).2.2 = true →
    let done := State.appendEvent
      { kind := .sequenceDone, region := some n.region, matcher := some i,
        count := some (BitVec.ofNat 16 m.defn.steps.length) }
      (State.latch .sequence (s.setMatcher i (some { m with progress := 0, deadline := none })))
    (m.defn.action = .noteOnly → s.giveCompletion n = done)
    ∧ (m.defn.action = .resetPulse → s.giveCompletion n =
        { done with pulse := some (s.timeBase + BitVec.ofNat 32 (s.timing.pulseLength.toNat * 1000)) })
    ∧ (∀ g d, m.defn.action = .openWindow g d → s.giveCompletion n = done.openGroup g d (some i))
    ∧ ∀ g, m.defn.action = .freezeGroup g → s.giveCompletion n = done.freezeGroup g (some i)

/-- The timers whose end is reached: WINDOW_EXPIRY closes the group with WINDOW_CLOSED (R108), DEADLINE_EXPIRY breaks
the sequence with SEQUENCE_LAPSED (R125), PULSE_END deasserts RSTO_N (R131), and COALESCING_CLOSE closes the open record
(R138). That the row of a timer which has not reached its end, a limit's among them, has no effect is log entry 1. -/
def Obligations.TimersExpire : Prop :=
  ∀ s : State,
    (∀ g, s.group g = .opened s.timeBase → exec (.windowExpiry g) s = .next
      (State.appendEvent { kind := .windowClosed, reason := some .expired, group := some g } (s.setGroup g .closed)))
    ∧ (∀ i m, s.matcher i = some m → m.deadline = some s.timeBase → exec (.deadlineExpiry i) s = .next
      (State.appendEvent
        { kind := .sequenceLapsed, reason := some .timeout, matcher := some i,
          count := some (BitVec.ofNat 16 m.progress) }
        (s.setMatcher i (some { m with progress := 0, deadline := none }))))
    ∧ (s.pulse = some s.timeBase → exec .pulseEnd s = .next { s with pulse := none }
        ∧ s.rstoAsserted = true ∧ State.rstoAsserted { s with pulse := none } = false)
    ∧ (s.openUntil = some s.timeBase → exec .coalescingClose s = .next { s with openUntil := none })
    ∧ (∀ g, s.group g ≠ .opened s.timeBase → exec (.windowExpiry g) s = .next s)
    ∧ (∀ i, (∀ m, s.matcher i = some m → m.deadline ≠ some s.timeBase) → exec (.deadlineExpiry i) s = .next s)
    ∧ (s.pulse ≠ some s.timeBase → exec .pulseEnd s = .next s)
    ∧ (s.gap ≠ some s.timeBase → exec .repulseGapEnd s = .next s)
    ∧ (s.openUntil ≠ some s.timeBase → exec .coalescingClose s = .next s)
    ∧ ((∀ n, s.port ≠ .resetting s.timeBase n) → exec .mportResetEnd s = .next s)
    ∧ ∀ m, (∀ a start limit, s.tag m = .active a → a.taken = some (start, limit) →
        (s.timeBase - start).toNat < limit.toNat) →
      exec (.verifyLimitExpiry m) s = .next s ∧ exec (.forwardLimitExpiry m) s = .next s

/-! ### Groups -/

/-- OPEN_WINDOW with the lock clear (R105, R110): from CLOSED the window opens, from OPEN it is extended where that is
longer than what remains, and in FROZEN it is refused by the group; each makes its event and the result is DONE. A
group byte above 3 is BAD_INDEX and a duration of 0 is BAD_FIELD. That the row stands for its frame is log entry 10. -/
def Obligations.OpenWindowCommand : Prop :=
  ∀ (b : Byte) (d : BitVec 16) (s : State), LinkUp s → s.lock = false →
    (∀ g : GroupIndex, b = BitVec.ofNat 8 g.val → d ≠ 0 →
      let u := s.answered .openWindow .done []
      let expiry := s.timeBase + BitVec.ofNat 32 (d.toNat * 1000)
      let event (kind : EventKind) (reason : Option Reason) : Event :=
        { kind := kind, reason := reason, group := some g, count := some d }
      (s.group g = .closed → exec (.openWindow b d) s = .next
        (State.appendEvent (event .windowOpened none) (u.setGroup g (.opened expiry))))
      ∧ (∀ e, s.group g = .opened e → (e - s.timeBase).toNat < d.toNat * 1000 → exec (.openWindow b d) s = .next
        (State.appendEvent (event .windowOpened (some .extended)) (u.setGroup g (.opened expiry))))
      ∧ (∀ e, s.group g = .opened e → d.toNat * 1000 ≤ (e - s.timeBase).toNat → exec (.openWindow b d) s = .next
        (State.appendEvent (event .windowOpened (some .extended)) u))
      ∧ (s.group g = .frozen → exec (.openWindow b d) s = .next
        (State.appendEvent (event .windowRefused none) u)))
    ∧ (3 < b.toNat → exec (.openWindow b d) s = .next (s.answered .openWindow .badIndex []))
    ∧ (b.toNat ≤ 3 → d = 0 → exec (.openWindow b d) s = .next (s.answered .openWindow .badField []))

/-- CLOSE_WINDOW and FREEZE_GROUP, allowed under the lock (R106, R107, R110). That the rows stand for their frames is log
entry 10. -/
def Obligations.CloseAndFreezeCommands : Prop :=
  ∀ (b : Byte) (s : State), LinkUp s →
    (∀ g : GroupIndex, b = BitVec.ofNat 8 g.val →
      let closed := s.answered .closeWindow .done []
      let frozen := s.answered .freezeGroup .done []
      (∀ e, s.group g = .opened e → exec (.closeWindow b) s = .next
        (State.appendEvent { kind := .windowClosed, reason := some .command, group := some g }
          (closed.setGroup g .closed)))
      ∧ (s.group g = .closed ∨ s.group g = .frozen → exec (.closeWindow b) s = .next closed)
      ∧ (s.group g ≠ .frozen → exec (.freezeGroup b) s = .next
        (State.appendEvent { kind := .groupFrozen, group := some g } (frozen.setGroup g .frozen)))
      ∧ (s.group g = .frozen → exec (.freezeGroup b) s = .next frozen))
    ∧ (3 < b.toNat → exec (.closeWindow b) s = .next (s.answered .closeWindow .badIndex [])
        ∧ exec (.freezeGroup b) s = .next (s.answered .freezeGroup .badIndex []))

/-- A FROZEN group stays FROZEN under every command but power-on reset (R102, R107). -/
def Obligations.FrozenGroupStaysFrozen : Prop :=
  ∀ (c : Instr) (s t : State) (g : GroupIndex), c ≠ .powerOnReset → s.group g = .frozen → exec c s = .next t →
    t.group g = .frozen

/-! ### The event log -/

/-- The three fates of an append request (R137): it coalesces into the open newest record (R138, R139); it becomes a
record, which latches LOG at the threshold and is opened where it may coalesce (R135, R138, R140); or it is lost and
counted, and LOST is latched (R141). The kinds of the ACCESS class are the first eight of Table 8-3 (R134). -/
def Obligations.AppendFates : Prop :=
  (∀ kind : EventKind, kind.class = .access ↔ kind ∈ [.writeRefused, .writeNoted, .readRefused, .readSubstituted,
    .readNoted, .shapeFault, .malformed, .tagClash])
  ∧ ∀ (e : Event) (s : State),
    (∀ older r, s.records = older ++ [r] → MayCoalesce s e r → s.appendEvent e =
      { s with
        records := older ++
          [{ r with
             repeatCount := r.repeatCount + 1, lastTime := s.timeBase,
             event := { r.event with access := e.access, attempted := e.attempted, reference := e.reference } }]
        openUntil := if r.repeatCount + 1 < 255 then
          some (s.timeBase + BitVec.ofNat 32 s.timing.coalescing.toNat) else none })
    ∧ ((∀ r, ¬ MayCoalesce s e r) → s.records.length < 16 → s.appendEvent e =
      { s with
        records := s.records ++ [⟨s.nextSeq, s.timeBase, s.timeBase, 1, e⟩]
        nextSeq := s.nextSeq + 1
        openUntil := if e.kind.class = .access ∧ s.timing.coalescing ≠ 0 then
          some (s.timeBase + BitVec.ofNat 32 s.timing.coalescing.toNat) else none
        latches := if s.timing.threshold.toNat ≤ s.records.length + 1 then { s.latches with log := true }
          else s.latches })
    ∧ ((∀ r, ¬ MayCoalesce s e r) → 16 ≤ s.records.length → s.appendEvent e =
      { s with
        lost := if s.lost < 65535 then s.lost + 1 else 65535
        firstLoss := if s.lost = 0 then some s.timeBase else s.firstLoss
        latestLoss := some s.timeBase
        latches := { s.latches with lost := true } })

/-- TAKE_EVENT names and closes the head and replies its image, laid out as Table 10-8 with the codes of Table 10-9
(R171, R173), or answers EMPTY with 32 zero bytes (R142); TAKE_EVENT_REMOVAL removes the named record, and an OVERFLOW
record reports the losses, takes its place and closes the record before it (R143). That R143 closes that record against
row 3 of Table 8-6 is log entry 23. That the row TAKE_EVENT stands for its frame is log entry 10, and that
TAKE_EVENT_REMOVAL has no effect where no record is named is log entry 12. -/
def Obligations.TakeEventTakesTheHead : Prop :=
  (∀ r : Record, r.repeatCount ≤ 255 → r.HasImage r.encode)
  ∧ [EventKind.writeRefused, .writeNoted, .readRefused, .readSubstituted, .readNoted, .shapeFault, .malformed, .tagClash,
      .verifyFault, .forwardFault, .forwardTimeout, .lateResponse, .mportResetDone, .sequenceDone, .sequenceLapsed,
      .windowOpened, .windowClosed, .windowRefused, .groupFrozen, .lineReset, .overflow].map (·.code.toNat)
    = List.range' 1 21
  ∧ [Reason.passing, .frozen, .groupFrozen, .outOfRange, .stepOut, .stepWrap, .gateClosed, .size, .align, .error, .timeout,
      .broken, .extended, .expired, .command].map (·.code.toNat) = List.range' 1 15
  ∧ ∀ s : State, (s.taking = false → exec .takeEventRemoval s = .next s)
    ∧ (LinkUp s → s.records = [] →
      exec .takeEvent s = .next (s.answered .takeEvent .empty (List.replicate 32 0)))
    ∧ (∀ r rest, LinkUp s → s.records = r :: rest →
      exec .takeEvent s = .next
        { s with taking := true, openUntil := if rest = [] then none else s.openUntil,
                 frame := .output .takeEvent .turnaround .done r.encode })
    ∧ ∀ r rest phase image, s.frame = .output .takeEvent phase .done image → s.taking = true → s.records = r :: rest →
      (s.lost = 0 → exec .takeEventRemoval s = .next
        { s with records := rest, taking := false, frame := .output .takeEvent .trailer .done image })
      ∧ ∀ f l, s.lost ≠ 0 → s.firstLoss = some f → s.latestLoss = some l → exec .takeEventRemoval s = .next
        { s with
          records := rest ++ [⟨s.nextSeq, f, l, 1, { kind := .overflow, count := some (BitVec.ofNat 16 s.lost) }⟩]
          nextSeq := s.nextSeq + 1, lost := 0, firstLoss := none, latestLoss := none, openUntil := none,
          taking := false, frame := .output .takeEvent .trailer .done image,
          latches := if s.timing.threshold.toNat ≤ rest.length + 1 then { s.latches with log := true }
            else s.latches }

/-- But for power-on reset and the removal event of a TAKE_EVENT (its row, or the byte that clocks out the last reply
byte), every command keeps every record, in its place; it changes none but the newest, whose number, first time and
every field that coalescing may not touch stay (R132). -/
def Obligations.RecordsKeepTheirPlace : Prop :=
  ∀ (c : Instr) (s t : State), exec c s = .next t → c ≠ .powerOnReset → c ≠ .takeEventRemoval →
    (∀ b k bytes, c = .slinkByteTaken b → s.frame = .output .takeEvent (.reply k) .done bytes → k + 1 < bytes.length) →
    ∀ (i : Nat) (r : Record), s.records[i]? = some r →
      ∃ r', t.records[i]? = some r' ∧ r'.seq = r.seq ∧ r'.firstTime = r.firstTime
        ∧ { r'.event with access := none, attempted := none, reference := none }
            = { r.event with access := none, attempted := none, reference := none }
        ∧ (i + 1 < s.records.length → r' = r)

/-- Every step keeps the laws of the event log (R132, R133, R135, R138, R141, R142). -/
def Obligations.LogStaysSound : Prop :=
  ∀ s t : State, LogSound s → step s = .next t → LogSound t

/-! ### The attention line -/

/-- ACK_ATTN clears the named causes, latches LOG again where the log still holds the threshold, and in REPULSE mode
starts the gap of 16 µs where an unmasked cause is left (R152, R153); SET_ATTN_MASK replaces the mask (R150); a cause
set with a high bit set is BAD_FIELD (R168). That the rows stand for their frames is log entry 10. -/
def Obligations.CauseCommands : Prop :=
  ∀ (b : Byte) (s : State), LinkUp s →
    (b.toNat < 16 →
      let latches : CauseSet :=
        ⟨s.latches.log && !b.getLsbD 0 || b.getLsbD 0 && decide (s.timing.threshold.toNat ≤ s.records.length),
         s.latches.lost && !b.getLsbD 1, s.latches.sequence && !b.getLsbD 2, s.latches.memory && !b.getLsbD 3⟩
      let heard := ∃ c, latches.has c = true ∧ s.mask.has c = true
      (s.timing.attnMode = .repulse → s.gap = none → heard → exec (.ackAttn b) s = .next
        { s.answered .ackAttn .done [] with latches := latches, gap := some (s.timeBase + 16) })
      ∧ ((s.timing.attnMode = .steady ∨ s.gap ≠ none ∨ ¬ heard) → exec (.ackAttn b) s = .next
        { s.answered .ackAttn .done [] with latches := latches })
      ∧ exec (.setAttnMask b) s = .next
        { s.answered .setAttnMask .done [] with
          mask := ⟨b.getLsbD 0, b.getLsbD 1, b.getLsbD 2, b.getLsbD 3⟩ })
    ∧ (16 ≤ b.toNat → exec (.ackAttn b) s = .next (s.answered .ackAttn .badField [])
        ∧ exec (.setAttnMask b) s = .next (s.answered .setAttnMask .badField []))

/-- The repulse gap ends when the time base equals its end time: the gap stops, ATTN_N follows R151 on the latches and
mask as they stand, and nothing is appended or latched (R154). -/
def Obligations.RepulseGapEnds : Prop :=
  ∀ s : State, s.gap = some s.timeBase → ∃ t, exec .repulseGapEnd s = .next t ∧ t = { s with gap := none }
    ∧ (t.attnAsserted = true ↔ (∃ c, s.latches.has c = true ∧ s.mask.has c = true)
        ∧ s.rstAsserted = false ∧ s.powerOn = false)

/-! ### The management link -/

/-- An unknown command (R159): its byte changes nothing but the frame; from then on SDO gives 05h in every byte and the
bytes on SDI have no effect, until the deselection; 00h and FFh are unknown. The known codes are those of Table 10-3. -/
def Obligations.UnknownCommand : Prop :=
  [Command.readStatus, .setMode, .lockConfig, .setTiming, .fetchTiming, .loadRegion, .fetchRegion, .dropRegion,
      .loadSequence, .fetchSequence, .dropSequence, .openWindow, .closeWindow, .freezeGroup, .takeEvent, .ackAttn,
      .setAttnMask, .resetMport].map Command.code
    = [0x10, 0x11, 0x12, 0x13, 0x14, 0x20, 0x21, 0x22, 0x30, 0x31, 0x32, 0x40, 0x41, 0x42, 0x50, 0x51, 0x52, 0x60]
  ∧ (∀ c, Command.ofCode? c.code = some c) ∧ Command.ofCode? 0x00 = none ∧ Command.ofCode? 0xFF = none
  ∧ (∀ b, Command.ofCode? b = none ↔ ∀ c : Command, c.code ≠ b)
  ∧ ∀ (code : Byte) (s : State), LinkUp s → Command.ofCode? code = none →
    (s.frame = .command → exec (.slinkByteTaken code) s = .next { s with frame := .unknown })
    ∧ (s.frame = .unknown → s.sdo = some 0x05 ∧ (∀ b, exec (.slinkByteTaken b) s = .next s)
        ∧ exec .frameDeselect s = .next { s with frame := .idle, taking := false })

/-- Every management row of the table does what its frame does byte by byte: deselection, selection, the command byte
and the argument bytes, and BAD_COMMAND ends at its command byte (R156 to R158, Tables 10-1 and 10-3). That a row stands
for such a frame, and has no effect while the S-link takes no byte, is the choice of log entries 10 and 11. -/
def Obligations.RowsAreTheirFrames : Prop :=
  ∀ s : State,
    (∀ (i : Instr) (c : Command) (args : List Byte), frameOf i = some (c, args) →
      args.length = c.argCount
      ∧ (LinkUp s → ∃ t, exec i s = .next t
        ∧ Runs (.frameDeselect :: .selectPeriodBegin :: (c.code :: args).map Instr.slinkByteTaken) s t)
      ∧ (¬ LinkUp s → exec i s = .next s))
    ∧ ∀ code : Byte,
      (LinkUp s → ∃ t, exec (.badCommand code) s = .next t
        ∧ Runs [.frameDeselect, .selectPeriodBegin, .slinkByteTaken code] s t
        ∧ (Command.ofCode? code = none → t = { s with taking := false, frame := .unknown }))
      ∧ (¬ LinkUp s → exec (.badCommand code) s = .next s)

/-- Select periods and frames (R156 to R158, R160): a period begins with the wait for a command byte, or is ignored while
no byte is taken; a command's arguments are collected without effect; the deselection ends the frame and its taking
mark. After the effect event, SDO gives FFh in the turnaround, the result code, the reply bytes in order, and 00h from
then on, whatever is taken on SDI; the last reply byte of a TAKE_EVENT that is DONE is its removal event (R143). Before the
effect event, and in an ignored period, SDO gives FFh; it is released while SCS_N is deasserted and during power-on reset.
The result codes are those of Table 10-2. That a byte without a select period and a second beginning of one have no effect
is log entry 1, and that the row TAKE_EVENT_REMOVAL stands for all the bytes up to the last reply byte is log entry 12. -/
def Obligations.FramePhases : Prop :=
  [Result.done, .empty, .locked, .badIndex, .badField, .badCommand, .busy, .wrongMode].map Result.code
    = [0x00, 0x01, 0x02, 0x03, 0x04, 0x05, 0x06, 0x07]
  ∧ (∀ s : State,
    (s.powerOn = true → s.sdo = none) ∧ (s.frame = .idle → s.sdo = none)
    ∧ (s.powerOn = false → s.frame = .ignored ∨ s.frame = .command ∨ (∃ c args, s.frame = .argument c args) →
      s.sdo = some 0xFF))
  ∧ (∀ s : State,
    (s.frame = .idle → LinkUp s → exec .selectPeriodBegin s = .next { s with frame := .command })
    ∧ (s.frame = .idle → ¬ LinkUp s → exec .selectPeriodBegin s = .next { s with frame := .ignored })
    ∧ exec .frameDeselect s = .next { s with frame := .idle, taking := false }
    ∧ (∀ b, ¬ LinkUp s ∨ s.frame = .ignored ∨ s.frame = .idle → exec (.slinkByteTaken b) s = .next s)
    ∧ (s.frame ≠ .idle → exec .selectPeriodBegin s = .next s)
    ∧ (∀ c : Command, LinkUp s → s.frame = .command → c.argCount ≠ 0 →
      exec (.slinkByteTaken c.code) s = .next { s with frame := .argument c [] })
    ∧ ∀ c args b, LinkUp s → s.frame = .argument c args → args.length + 1 < c.argCount →
      exec (.slinkByteTaken b) s = .next { s with frame := .argument c (args ++ [b]) })
  ∧ ∀ (c : Command) (result : Result) (reply sdi : List Byte) (s t : State),
    LinkUp s → s.frame = .output c .turnaround result reply → Runs (sdi.map Instr.slinkByteTaken) s t →
    (t.sdo = some (if sdi.length = 0 then 0xFF else if sdi.length = 1 then result.code
      else reply.getD (sdi.length - 2) 0))
    ∧ (c = .takeEvent → result = .done → s.taking = true → reply.length = 32 → sdi.length = 34 →
      exec .takeEventRemoval s = .next t)
    ∧ (c ≠ .takeEvent → t = { s with frame := t.frame })

/-- SET_MODE and LOCK_CONFIG (R163, R164), and the eight commands that the lock refuses, whatever their arguments
(R161, Table 10-3). That the rows stand for their frames is log entry 10. -/
def Obligations.ModeAndLockCommands : Prop :=
  ∀ (s : State), LinkUp s →
    (s.lock = false → ∀ b : Byte,
      (b = 0 → exec (.setMode b) s = .next { s.answered .setMode .done [] with mode := .bypass })
      ∧ (b = 1 → exec (.setMode b) s = .next { s.answered .setMode .done [] with mode := .enforce })
      ∧ (1 < b.toNat → exec (.setMode b) s = .next (s.answered .setMode .badField [])))
    ∧ (s.lock = false → s.mode = .enforce →
      exec .lockConfig s = .next { s.answered .lockConfig .done [] with lock := true })
    ∧ (s.lock = false → s.mode = .bypass → exec .lockConfig s = .next (s.answered .lockConfig .wrongMode []))
    ∧ (s.lock = true → ∀ (i : Instr) (c : Command) (args : List Byte), frameOf i = some (c, args) →
      c ∈ [.setMode, .lockConfig, .setTiming, .loadRegion, .dropRegion, .loadSequence, .dropSequence, .openWindow] →
      exec i s = .next (s.answered c .locked []))

/-- Under the configuration lock no command but power-on reset changes the region table, the sequence definitions, the
timing settings or the unit mode, and the lock stays set (R164). -/
def Obligations.LockFixesTheConfiguration : Prop :=
  ∀ (c : Instr) (s t : State), c ≠ .powerOnReset → s.lock = true → exec c s = .next t →
    t.lock = true ∧ t.mode = s.mode ∧ t.timing = s.timing ∧ t.regions = s.regions
      ∧ ∀ i, (t.matcher i).map Matcher.defn = (s.matcher i).map Matcher.defn

/-- The region image holds exactly the legal entries: an entry's image is laid out as Tables 10-4 and 10-5 say and decodes
to the entry, an accepted image is the image of the entry it gives, and an image of no legal entry is refused. An entry is
legal where no row of Table 1-5 refuses it: its base's low bits, its count, its span, its sizes, the bounds of its
policies, a companion's low bits, an alternate policy without a group (R2, R8, R9, R12, R17, R169). -/
def Obligations.RegionImageRoundTrip : Prop :=
  (∀ r : Region,
    let w := match r.width with
      | .w8 => 8
      | .w16 => 16
      | .w32 => 32
    let bound (x : Word) : Int := if r.signed = true then x.toInt else x.toNat
    let fits (p : Policy) : Prop := match p with
      | .free => True
      | .frozen => True
      | .bounded lo hi => (if r.signed = true then -(2 ^ (w - 1)) else 0) ≤ bound lo ∧ bound lo ≤ bound hi
          ∧ bound hi ≤ if r.signed = true then 2 ^ (w - 1) - 1 else 2 ^ w - 1
      | .stepped lo hi _ => -(2 ^ (w - 1)) ≤ lo.toInt ∧ lo.toInt ≤ hi.toInt ∧ hi.toInt ≤ 2 ^ (w - 1) - 1
      | .gated companion _ => companion.toNat % 4 = 0
    r.legal = true ↔ r.base.toNat % 4 = 0 ∧ r.count ≠ 0 ∧ r.base.toNat / 4 + r.count.toNat ≤ 0x40000000
      ∧ (r.allowByte = true ∨ r.allowHalf = true ∨ r.allowWord = true) ∧ fits r.primary
      ∧ (∀ p, r.alternate = some p → r.group ≠ none ∧ fits p))
  ∧ (∀ l : List Byte, l.length = 32 → (Region.decode? l = none ↔ ∀ r : Region, r.legal = true → r.encode ≠ l))
  ∧ (∀ r : Region, r.legal = true → r.HasImage r.encode ∧ Region.decode? r.encode = some r)
  ∧ ∀ (l : List Byte) (r : Region), l.length = 32 → Region.decode? l = some r → r.legal = true ∧ r.encode = l

/-- LOAD_REGION, DROP_REGION and FETCH_REGION (R12, R13, R17, R161): what is loaded is what is fetched, byte for byte.
That the rows stand for their frames is log entry 10. -/
def Obligations.RegionCommands : Prop :=
  ∀ (b : Byte) (s : State), LinkUp s →
    (∀ i : RegionIndex, b = BitVec.ofNat 8 i.val →
      (∀ image r, s.lock = false → Region.decode? (Vector.toList image) = some r →
        exec (.loadRegion b image) s = .next ((s.answered .loadRegion .done []).setRegion i (some r))
        ∧ Runs [.loadRegion b image, .fetchRegion b] s
            (State.answered ((s.answered .loadRegion .done []).setRegion i (some r)) .fetchRegion .done
              (1 :: image.toList)))
      ∧ (∀ image, s.lock = false → Region.decode? (Vector.toList image) = none →
        exec (.loadRegion b image) s = .next (s.answered .loadRegion .badField []))
      ∧ (s.lock = false → exec (.dropRegion b) s = .next ((s.answered .dropRegion .done []).setRegion i none))
      ∧ (s.region i = none →
        exec (.fetchRegion b) s = .next (s.answered .fetchRegion .done (List.replicate 33 0)))
      ∧ ∀ r, s.region i = some r → exec (.fetchRegion b) s = .next (s.answered .fetchRegion .done (1 :: r.encode)))
    ∧ (31 < b.toNat →
      exec (.fetchRegion b) s = .next (s.answered .fetchRegion .badIndex (List.replicate 33 0))
      ∧ (s.lock = false → exec (.dropRegion b) s = .next (s.answered .dropRegion .badIndex [])
        ∧ ∀ image, exec (.loadRegion b image) s = .next (s.answered .loadRegion .badIndex [])))

/-- The sequence image holds exactly the legal definitions: a definition's image is laid out as Tables 10-5 and 10-6a say
and decodes to the definition, an accepted image is the image of the definition it gives, and an image of no legal
definition is refused. A definition is legal where no row of Table 7-3 refuses it: its step count, its gap, the duration of
a window (R115, R118, R170). -/
def Obligations.SequenceImageRoundTrip : Prop :=
  (∀ d : SeqDef, d.legal = true ↔ 1 ≤ d.steps.length ∧ d.steps.length ≤ 6 ∧ d.gap ≠ 0
    ∧ ∀ g duration, d.action = .openWindow g duration → duration ≠ 0)
  ∧ (∀ l : List Byte, l.length = 68 → (SeqDef.decode? l = none ↔ ∀ d : SeqDef, d.legal = true → d.encode ≠ l))
  ∧ (∀ d : SeqDef, d.legal = true → d.HasImage d.encode ∧ SeqDef.decode? d.encode = some d)
  ∧ ∀ (l : List Byte) (d : SeqDef), l.length = 68 → SeqDef.decode? l = some d → d.legal = true ∧ d.encode = l

/-- LOAD_SEQUENCE, DROP_SEQUENCE and FETCH_SEQUENCE (R116 to R118, R161): a load starts the matcher at its first step
with no event; the reply tells image, presence, progress and the remaining gap in milliseconds, rounded up, and 0 without
a deadline, as at progress 0. That the rows stand for their frames is log entry 10. -/
def Obligations.SequenceCommands : Prop :=
  ∀ (b : Byte) (s : State), LinkUp s →
    (∀ i : MatcherIndex, b = BitVec.ofNat 8 i.val →
      (∀ image d, s.lock = false → SeqDef.decode? (Vector.toList image) = some d →
        exec (.loadSequence b image) s = .next
          ((s.answered .loadSequence .done []).setMatcher i (some ⟨d, 0, none⟩))
        ∧ Runs [.loadSequence b image, .fetchSequence b] s
            (State.answered ((s.answered .loadSequence .done []).setMatcher i (some ⟨d, 0, none⟩)) .fetchSequence .done
              (image.toList ++ [1, 0, 0, 0])))
      ∧ (∀ image, s.lock = false → SeqDef.decode? (Vector.toList image) = none →
        exec (.loadSequence b image) s = .next (s.answered .loadSequence .badField []))
      ∧ (s.lock = false → exec (.dropSequence b) s = .next ((s.answered .dropSequence .done []).setMatcher i none))
      ∧ (s.matcher i = none →
        exec (.fetchSequence b) s = .next (s.answered .fetchSequence .done (List.replicate 72 0)))
      ∧ (∀ m, s.matcher i = some m → m.deadline = none → exec (.fetchSequence b) s = .next
        (s.answered .fetchSequence .done (m.defn.encode ++ [1, BitVec.ofNat 8 m.progress, 0, 0])))
      ∧ (∀ m, s.matcher i = some m → m.Sound → m.progress = 0 → exec (.fetchSequence b) s = .next
        (s.answered .fetchSequence .done (m.defn.encode ++ [1, 0, 0, 0])))
      ∧ ∀ m e, s.matcher i = some m → m.deadline = some e → (e - s.timeBase).toNat ≤ 65535000 →
        ∃ left : BitVec 16, (e - s.timeBase).toNat ≤ left.toNat * 1000
          ∧ left.toNat * 1000 < (e - s.timeBase).toNat + 1000
          ∧ exec (.fetchSequence b) s = .next (s.answered .fetchSequence .done
              (m.defn.encode ++ [1, BitVec.ofNat 8 m.progress, left.extractLsb' 0 8, left.extractLsb' 8 8])))
    ∧ (3 < b.toNat →
      exec (.fetchSequence b) s = .next (s.answered .fetchSequence .badIndex (List.replicate 72 0))
      ∧ (s.lock = false → exec (.dropSequence b) s = .next (s.answered .dropSequence .badIndex [])
        ∧ ∀ image, exec (.loadSequence b image) s = .next (s.answered .loadSequence .badIndex [])))

/-- SET_TIMING and FETCH_TIMING (R165, R166, Table 10-6): an image in range is taken whole and fetched back byte for
byte, and any other is refused BAD_FIELD and changes nothing. That the rows stand for their frames is log entry 10. -/
def Obligations.TimingCommands : Prop :=
  ∀ (image : Vector Byte 12) (s : State), LinkUp s →
    exec .fetchTiming s = .next (s.answered .fetchTiming .done
      [s.timing.verifyLimit.extractLsb' 0 8, s.timing.verifyLimit.extractLsb' 8 8,
       s.timing.forwardLimit.extractLsb' 0 8, s.timing.forwardLimit.extractLsb' 8 8,
       s.timing.coalescing.extractLsb' 0 8, s.timing.coalescing.extractLsb' 8 8,
       s.timing.pulseLength, s.timing.threshold, if s.timing.attnMode = .repulse then 1 else 0, 0, 0, 0])
    ∧ (s.lock = false →
      let bad := (image[0] = 0 ∧ image[1] = 0) ∨ (image[2] = 0 ∧ image[3] = 0) ∨ image[6] = 0 ∨ image[7] = 0
        ∨ 16 < image[7].toNat ∨ 1 < image[8].toNat ∨ image[9] ≠ 0 ∨ image[10] ≠ 0 ∨ image[11] ≠ 0
      (bad → exec (.setTiming image) s = .next (s.answered .setTiming .badField []))
      ∧ (¬ bad → ∃ timing : Timing, Runs [.setTiming image, .fetchTiming] s
          ({ s with timing := timing }.answered .fetchTiming .done image.toList)
        ∧ exec (.setTiming image) s = .next { s.answered .setTiming .done [] with timing := timing }))

/-- READ_STATUS replies the 16 bytes of Table 10-7, each item as it stands at the effect event (R167, R172). That the row
stands for its frame is log entry 10. -/
def Obligations.ReadStatusReply : Prop :=
  ∀ s : State, LinkUp s → ∃ img : List Byte, exec .readStatus s = .next (s.answered .readStatus .done img)
    ∧ img.length = 16
    ∧ ((byteAt img 0).getLsbD 0 = true ↔ s.mode = .enforce) ∧ (byteAt img 0).getLsbD 1 = s.lock
    ∧ ((byteAt img 0).getLsbD 2 = true ↔ s.pulse ≠ none) ∧ ((byteAt img 0).getLsbD 3 = true ↔ s.port ≠ .ready)
    ∧ ((byteAt img 0).getLsbD 4 = true ↔ s.timing.attnMode = .repulse)
    ∧ ((byteAt img 0).getLsbD 5 = true ↔ (∃ c, s.latches.has c = true ∧ s.mask.has c = true) ∧ s.gap = none)
    ∧ (byteAt img 0).toNat < 64
    ∧ (s.records.length ≤ 16 → (byteAt img 1).toNat = s.records.length)
    ∧ (s.lost ≤ 65535 → (byteAt img 2).toNat + 256 * (byteAt img 3).toNat = s.lost)
    ∧ (∀ c, (byteAt img 4).getLsbD (match c with | .log => 0 | .lost => 1 | .sequence => 2 | .memory => 3)
        = s.latches.has c) ∧ (byteAt img 4).toNat < 16
    ∧ (∀ c, (byteAt img 5).getLsbD (match c with | .log => 0 | .lost => 1 | .sequence => 2 | .memory => 3)
        = s.mask.has c) ∧ (byteAt img 5).toNat < 16
    ∧ (∀ g : GroupIndex, (byteAt img 6).extractLsb' (2 * g.val) 2 = match s.group g with
        | .closed => 0
        | .opened _ => 1
        | .frozen => 2)
    ∧ (s.table.length ≤ 16 → (byteAt img 7).toNat = s.table.length)
    ∧ (s.slotsInUse ≤ 4 → (byteAt img 8).toNat = s.slotsInUse)
    ∧ (byteAt img 9).toNat % 16 = ((List.finRange 8).filter (fun m => match s.tag m with
        | .active _ => true
        | .orphaned _ => false
        | .free => false)).length
    ∧ (byteAt img 9).toNat / 16 = ((List.finRange 8).filter (fun m => match s.tag m with
        | .active _ => false
        | .orphaned _ => true
        | .free => false)).length
    ∧ byteAt img 10 = 0 ∧ byteAt img 11 = 0 ∧ read32 img 12 = s.timeBase

/-! ### Laws that every step keeps -/

/-- Every step keeps the configuration and the matchers sound (R12, R114, R115, R164, R165). -/
def Obligations.ConfigurationStaysSound : Prop :=
  ∀ s t : State, ConfigSound s → MatchersSound s → step s = .next t → ConfigSound t ∧ MatchersSound t

/-- Every step keeps the laws of the transaction table and the M-tags, and leaves no grant open (R60 to R71, R77, R83,
R85, R97). -/
def Obligations.TableStaysSound : Prop :=
  ∀ s t : State, TableSound s → ArbiterSettled s → step s = .next t → TableSound t ∧ ArbiterSettled t

/-- While RST_N is asserted or power-on reset is in progress the unit is quiet, and every step keeps it so (R80, R100,
R101, R113, R129, R146, R155, R160). -/
def Obligations.ResetStaysQuiet : Prop :=
  ∀ s t : State, (¬ LinkUp s → Quiet s) → step s = .next t → ¬ LinkUp t → Quiet t

/-- The state right after power-on reset is sound in every respect (R1, R21, R81, R85, R101, R102, R114, R147, R162). That
RST_N stands released in it, so that the S-link takes bytes, is the model's choice of log entry 7. -/
def Obligations.SoundAtReset : Prop :=
  LogSound State.reset ∧ ConfigSound State.reset ∧ MatchersSound State.reset ∧ TableSound State.reset
    ∧ ArbiterSettled State.reset ∧ Quiet State.reset ∧ LinkUp State.reset
end

