-- ==== Sys2Proof/Laws/State.lean ====
section
/-! SUPPORT. What each plain update of the state does to each field: one lemma per field per update, all true by
`rfl`, so that no later proof unfolds a record update. -/

namespace Sys2Proof.Machine

variable (s t : State)

/-! ### A latch request -/

section

variable (c : Cause)

@[simp] theorem State.latch_timeBase : (s.latch c).timeBase = s.timeBase := rfl
@[simp] theorem State.latch_powerOn : (s.latch c).powerOn = s.powerOn := rfl
@[simp] theorem State.latch_rstAsserted : (s.latch c).rstAsserted = s.rstAsserted := rfl
@[simp] theorem State.latch_answers : (s.latch c).answers = s.answers := rfl
@[simp] theorem State.latch_table : (s.latch c).table = s.table := rfl
@[simp] theorem State.latch_deliveries : (s.latch c).deliveries = s.deliveries := rfl
@[simp] theorem State.latch_mtags : (s.latch c).mtags = s.mtags := rfl
@[simp] theorem State.latch_onOffer : (s.latch c).onOffer = s.onOffer := rfl
@[simp] theorem State.latch_port : (s.latch c).port = s.port := rfl
@[simp] theorem State.latch_regions : (s.latch c).regions = s.regions := rfl
@[simp] theorem State.latch_groups : (s.latch c).groups = s.groups := rfl
@[simp] theorem State.latch_matchers : (s.latch c).matchers = s.matchers := rfl
@[simp] theorem State.latch_pulse : (s.latch c).pulse = s.pulse := rfl
@[simp] theorem State.latch_records : (s.latch c).records = s.records := rfl
@[simp] theorem State.latch_nextSeq : (s.latch c).nextSeq = s.nextSeq := rfl
@[simp] theorem State.latch_lost : (s.latch c).lost = s.lost := rfl
@[simp] theorem State.latch_firstLoss : (s.latch c).firstLoss = s.firstLoss := rfl
@[simp] theorem State.latch_latestLoss : (s.latch c).latestLoss = s.latestLoss := rfl
@[simp] theorem State.latch_openUntil : (s.latch c).openUntil = s.openUntil := rfl
@[simp] theorem State.latch_taking : (s.latch c).taking = s.taking := rfl
@[simp] theorem State.latch_latches : (s.latch c).latches = s.latches.insert c := rfl
@[simp] theorem State.latch_mask : (s.latch c).mask = s.mask := rfl
@[simp] theorem State.latch_gap : (s.latch c).gap = s.gap := rfl
@[simp] theorem State.latch_mode : (s.latch c).mode = s.mode := rfl
@[simp] theorem State.latch_lock : (s.latch c).lock = s.lock := rfl
@[simp] theorem State.latch_timing : (s.latch c).timing = s.timing := rfl
@[simp] theorem State.latch_frame : (s.latch c).frame = s.frame := rfl
@[simp] theorem State.latch_choices : (s.latch c).choices = s.choices := rfl
@[simp] theorem State.latch_pending : (s.latch c).pending = s.pending := rfl

end

/-! ### An M-tag entry -/

section

variable (m : MTag) (e : TagEntry)

@[simp] theorem State.setTag_timeBase : (s.setTag m e).timeBase = s.timeBase := rfl
@[simp] theorem State.setTag_powerOn : (s.setTag m e).powerOn = s.powerOn := rfl
@[simp] theorem State.setTag_rstAsserted : (s.setTag m e).rstAsserted = s.rstAsserted := rfl
@[simp] theorem State.setTag_answers : (s.setTag m e).answers = s.answers := rfl
@[simp] theorem State.setTag_table : (s.setTag m e).table = s.table := rfl
@[simp] theorem State.setTag_deliveries : (s.setTag m e).deliveries = s.deliveries := rfl
@[simp] theorem State.setTag_mtags : (s.setTag m e).mtags = s.mtags.set m.val e m.isLt := rfl
@[simp] theorem State.setTag_onOffer : (s.setTag m e).onOffer = s.onOffer := rfl
@[simp] theorem State.setTag_port : (s.setTag m e).port = s.port := rfl
@[simp] theorem State.setTag_regions : (s.setTag m e).regions = s.regions := rfl
@[simp] theorem State.setTag_groups : (s.setTag m e).groups = s.groups := rfl
@[simp] theorem State.setTag_matchers : (s.setTag m e).matchers = s.matchers := rfl
@[simp] theorem State.setTag_pulse : (s.setTag m e).pulse = s.pulse := rfl
@[simp] theorem State.setTag_records : (s.setTag m e).records = s.records := rfl
@[simp] theorem State.setTag_nextSeq : (s.setTag m e).nextSeq = s.nextSeq := rfl
@[simp] theorem State.setTag_lost : (s.setTag m e).lost = s.lost := rfl
@[simp] theorem State.setTag_firstLoss : (s.setTag m e).firstLoss = s.firstLoss := rfl
@[simp] theorem State.setTag_latestLoss : (s.setTag m e).latestLoss = s.latestLoss := rfl
@[simp] theorem State.setTag_openUntil : (s.setTag m e).openUntil = s.openUntil := rfl
@[simp] theorem State.setTag_taking : (s.setTag m e).taking = s.taking := rfl
@[simp] theorem State.setTag_latches : (s.setTag m e).latches = s.latches := rfl
@[simp] theorem State.setTag_mask : (s.setTag m e).mask = s.mask := rfl
@[simp] theorem State.setTag_gap : (s.setTag m e).gap = s.gap := rfl
@[simp] theorem State.setTag_mode : (s.setTag m e).mode = s.mode := rfl
@[simp] theorem State.setTag_lock : (s.setTag m e).lock = s.lock := rfl
@[simp] theorem State.setTag_timing : (s.setTag m e).timing = s.timing := rfl
@[simp] theorem State.setTag_frame : (s.setTag m e).frame = s.frame := rfl
@[simp] theorem State.setTag_choices : (s.setTag m e).choices = s.choices := rfl
@[simp] theorem State.setTag_pending : (s.setTag m e).pending = s.pending := rfl

end

/-! ### A group -/

section

variable (g : GroupIndex) (x : Group)

@[simp] theorem State.setGroup_timeBase : (s.setGroup g x).timeBase = s.timeBase := rfl
@[simp] theorem State.setGroup_powerOn : (s.setGroup g x).powerOn = s.powerOn := rfl
@[simp] theorem State.setGroup_rstAsserted : (s.setGroup g x).rstAsserted = s.rstAsserted := rfl
@[simp] theorem State.setGroup_answers : (s.setGroup g x).answers = s.answers := rfl
@[simp] theorem State.setGroup_table : (s.setGroup g x).table = s.table := rfl
@[simp] theorem State.setGroup_deliveries : (s.setGroup g x).deliveries = s.deliveries := rfl
@[simp] theorem State.setGroup_mtags : (s.setGroup g x).mtags = s.mtags := rfl
@[simp] theorem State.setGroup_onOffer : (s.setGroup g x).onOffer = s.onOffer := rfl
@[simp] theorem State.setGroup_port : (s.setGroup g x).port = s.port := rfl
@[simp] theorem State.setGroup_regions : (s.setGroup g x).regions = s.regions := rfl
@[simp] theorem State.setGroup_groups : (s.setGroup g x).groups = s.groups.set g.val x g.isLt := rfl
@[simp] theorem State.setGroup_matchers : (s.setGroup g x).matchers = s.matchers := rfl
@[simp] theorem State.setGroup_pulse : (s.setGroup g x).pulse = s.pulse := rfl
@[simp] theorem State.setGroup_records : (s.setGroup g x).records = s.records := rfl
@[simp] theorem State.setGroup_nextSeq : (s.setGroup g x).nextSeq = s.nextSeq := rfl
@[simp] theorem State.setGroup_lost : (s.setGroup g x).lost = s.lost := rfl
@[simp] theorem State.setGroup_firstLoss : (s.setGroup g x).firstLoss = s.firstLoss := rfl
@[simp] theorem State.setGroup_latestLoss : (s.setGroup g x).latestLoss = s.latestLoss := rfl
@[simp] theorem State.setGroup_openUntil : (s.setGroup g x).openUntil = s.openUntil := rfl
@[simp] theorem State.setGroup_taking : (s.setGroup g x).taking = s.taking := rfl
@[simp] theorem State.setGroup_latches : (s.setGroup g x).latches = s.latches := rfl
@[simp] theorem State.setGroup_mask : (s.setGroup g x).mask = s.mask := rfl
@[simp] theorem State.setGroup_gap : (s.setGroup g x).gap = s.gap := rfl
@[simp] theorem State.setGroup_mode : (s.setGroup g x).mode = s.mode := rfl
@[simp] theorem State.setGroup_lock : (s.setGroup g x).lock = s.lock := rfl
@[simp] theorem State.setGroup_timing : (s.setGroup g x).timing = s.timing := rfl
@[simp] theorem State.setGroup_frame : (s.setGroup g x).frame = s.frame := rfl
@[simp] theorem State.setGroup_choices : (s.setGroup g x).choices = s.choices := rfl
@[simp] theorem State.setGroup_pending : (s.setGroup g x).pending = s.pending := rfl

end

/-! ### A matcher -/

section

variable (m : MatcherIndex) (x : Option Matcher)

@[simp] theorem State.setMatcher_timeBase : (s.setMatcher m x).timeBase = s.timeBase := rfl
@[simp] theorem State.setMatcher_powerOn : (s.setMatcher m x).powerOn = s.powerOn := rfl
@[simp] theorem State.setMatcher_rstAsserted : (s.setMatcher m x).rstAsserted = s.rstAsserted := rfl
@[simp] theorem State.setMatcher_answers : (s.setMatcher m x).answers = s.answers := rfl
@[simp] theorem State.setMatcher_table : (s.setMatcher m x).table = s.table := rfl
@[simp] theorem State.setMatcher_deliveries : (s.setMatcher m x).deliveries = s.deliveries := rfl
@[simp] theorem State.setMatcher_mtags : (s.setMatcher m x).mtags = s.mtags := rfl
@[simp] theorem State.setMatcher_onOffer : (s.setMatcher m x).onOffer = s.onOffer := rfl
@[simp] theorem State.setMatcher_port : (s.setMatcher m x).port = s.port := rfl
@[simp] theorem State.setMatcher_regions : (s.setMatcher m x).regions = s.regions := rfl
@[simp] theorem State.setMatcher_groups : (s.setMatcher m x).groups = s.groups := rfl
@[simp] theorem State.setMatcher_matchers : (s.setMatcher m x).matchers = s.matchers.set m.val x m.isLt := rfl
@[simp] theorem State.setMatcher_pulse : (s.setMatcher m x).pulse = s.pulse := rfl
@[simp] theorem State.setMatcher_records : (s.setMatcher m x).records = s.records := rfl
@[simp] theorem State.setMatcher_nextSeq : (s.setMatcher m x).nextSeq = s.nextSeq := rfl
@[simp] theorem State.setMatcher_lost : (s.setMatcher m x).lost = s.lost := rfl
@[simp] theorem State.setMatcher_firstLoss : (s.setMatcher m x).firstLoss = s.firstLoss := rfl
@[simp] theorem State.setMatcher_latestLoss : (s.setMatcher m x).latestLoss = s.latestLoss := rfl
@[simp] theorem State.setMatcher_openUntil : (s.setMatcher m x).openUntil = s.openUntil := rfl
@[simp] theorem State.setMatcher_taking : (s.setMatcher m x).taking = s.taking := rfl
@[simp] theorem State.setMatcher_latches : (s.setMatcher m x).latches = s.latches := rfl
@[simp] theorem State.setMatcher_mask : (s.setMatcher m x).mask = s.mask := rfl
@[simp] theorem State.setMatcher_gap : (s.setMatcher m x).gap = s.gap := rfl
@[simp] theorem State.setMatcher_mode : (s.setMatcher m x).mode = s.mode := rfl
@[simp] theorem State.setMatcher_lock : (s.setMatcher m x).lock = s.lock := rfl
@[simp] theorem State.setMatcher_timing : (s.setMatcher m x).timing = s.timing := rfl
@[simp] theorem State.setMatcher_frame : (s.setMatcher m x).frame = s.frame := rfl
@[simp] theorem State.setMatcher_choices : (s.setMatcher m x).choices = s.choices := rfl
@[simp] theorem State.setMatcher_pending : (s.setMatcher m x).pending = s.pending := rfl

end

/-! ### A region entry -/

section

variable (i : RegionIndex) (x : Option Region)

@[simp] theorem State.setRegion_timeBase : (s.setRegion i x).timeBase = s.timeBase := rfl
@[simp] theorem State.setRegion_powerOn : (s.setRegion i x).powerOn = s.powerOn := rfl
@[simp] theorem State.setRegion_rstAsserted : (s.setRegion i x).rstAsserted = s.rstAsserted := rfl
@[simp] theorem State.setRegion_answers : (s.setRegion i x).answers = s.answers := rfl
@[simp] theorem State.setRegion_table : (s.setRegion i x).table = s.table := rfl
@[simp] theorem State.setRegion_deliveries : (s.setRegion i x).deliveries = s.deliveries := rfl
@[simp] theorem State.setRegion_mtags : (s.setRegion i x).mtags = s.mtags := rfl
@[simp] theorem State.setRegion_onOffer : (s.setRegion i x).onOffer = s.onOffer := rfl
@[simp] theorem State.setRegion_port : (s.setRegion i x).port = s.port := rfl
@[simp] theorem State.setRegion_regions : (s.setRegion i x).regions = s.regions.set i.val x i.isLt := rfl
@[simp] theorem State.setRegion_groups : (s.setRegion i x).groups = s.groups := rfl
@[simp] theorem State.setRegion_matchers : (s.setRegion i x).matchers = s.matchers := rfl
@[simp] theorem State.setRegion_pulse : (s.setRegion i x).pulse = s.pulse := rfl
@[simp] theorem State.setRegion_records : (s.setRegion i x).records = s.records := rfl
@[simp] theorem State.setRegion_nextSeq : (s.setRegion i x).nextSeq = s.nextSeq := rfl
@[simp] theorem State.setRegion_lost : (s.setRegion i x).lost = s.lost := rfl
@[simp] theorem State.setRegion_firstLoss : (s.setRegion i x).firstLoss = s.firstLoss := rfl
@[simp] theorem State.setRegion_latestLoss : (s.setRegion i x).latestLoss = s.latestLoss := rfl
@[simp] theorem State.setRegion_openUntil : (s.setRegion i x).openUntil = s.openUntil := rfl
@[simp] theorem State.setRegion_taking : (s.setRegion i x).taking = s.taking := rfl
@[simp] theorem State.setRegion_latches : (s.setRegion i x).latches = s.latches := rfl
@[simp] theorem State.setRegion_mask : (s.setRegion i x).mask = s.mask := rfl
@[simp] theorem State.setRegion_gap : (s.setRegion i x).gap = s.gap := rfl
@[simp] theorem State.setRegion_mode : (s.setRegion i x).mode = s.mode := rfl
@[simp] theorem State.setRegion_lock : (s.setRegion i x).lock = s.lock := rfl
@[simp] theorem State.setRegion_timing : (s.setRegion i x).timing = s.timing := rfl
@[simp] theorem State.setRegion_frame : (s.setRegion i x).frame = s.frame := rfl
@[simp] theorem State.setRegion_choices : (s.setRegion i x).choices = s.choices := rfl
@[simp] theorem State.setRegion_pending : (s.setRegion i x).pending = s.pending := rfl

end

/-! ### A record of the transaction table -/

section

variable (h : HTag) (f : Txn → Txn)

@[simp] theorem State.updateTxn_timeBase : (s.updateTxn h f).timeBase = s.timeBase := rfl
@[simp] theorem State.updateTxn_powerOn : (s.updateTxn h f).powerOn = s.powerOn := rfl
@[simp] theorem State.updateTxn_rstAsserted : (s.updateTxn h f).rstAsserted = s.rstAsserted := rfl
@[simp] theorem State.updateTxn_answers : (s.updateTxn h f).answers = s.answers := rfl
@[simp] theorem State.updateTxn_table : (s.updateTxn h f).table = s.table.map (fun t => if t.htag == h then f t else t) := rfl
@[simp] theorem State.updateTxn_deliveries : (s.updateTxn h f).deliveries = s.deliveries := rfl
@[simp] theorem State.updateTxn_mtags : (s.updateTxn h f).mtags = s.mtags := rfl
@[simp] theorem State.updateTxn_onOffer : (s.updateTxn h f).onOffer = s.onOffer := rfl
@[simp] theorem State.updateTxn_port : (s.updateTxn h f).port = s.port := rfl
@[simp] theorem State.updateTxn_regions : (s.updateTxn h f).regions = s.regions := rfl
@[simp] theorem State.updateTxn_groups : (s.updateTxn h f).groups = s.groups := rfl
@[simp] theorem State.updateTxn_matchers : (s.updateTxn h f).matchers = s.matchers := rfl
@[simp] theorem State.updateTxn_pulse : (s.updateTxn h f).pulse = s.pulse := rfl
@[simp] theorem State.updateTxn_records : (s.updateTxn h f).records = s.records := rfl
@[simp] theorem State.updateTxn_nextSeq : (s.updateTxn h f).nextSeq = s.nextSeq := rfl
@[simp] theorem State.updateTxn_lost : (s.updateTxn h f).lost = s.lost := rfl
@[simp] theorem State.updateTxn_firstLoss : (s.updateTxn h f).firstLoss = s.firstLoss := rfl
@[simp] theorem State.updateTxn_latestLoss : (s.updateTxn h f).latestLoss = s.latestLoss := rfl
@[simp] theorem State.updateTxn_openUntil : (s.updateTxn h f).openUntil = s.openUntil := rfl
@[simp] theorem State.updateTxn_taking : (s.updateTxn h f).taking = s.taking := rfl
@[simp] theorem State.updateTxn_latches : (s.updateTxn h f).latches = s.latches := rfl
@[simp] theorem State.updateTxn_mask : (s.updateTxn h f).mask = s.mask := rfl
@[simp] theorem State.updateTxn_gap : (s.updateTxn h f).gap = s.gap := rfl
@[simp] theorem State.updateTxn_mode : (s.updateTxn h f).mode = s.mode := rfl
@[simp] theorem State.updateTxn_lock : (s.updateTxn h f).lock = s.lock := rfl
@[simp] theorem State.updateTxn_timing : (s.updateTxn h f).timing = s.timing := rfl
@[simp] theorem State.updateTxn_frame : (s.updateTxn h f).frame = s.frame := rfl
@[simp] theorem State.updateTxn_choices : (s.updateTxn h f).choices = s.choices := rfl
@[simp] theorem State.updateTxn_pending : (s.updateTxn h f).pending = s.pending := rfl

end

/-! ### The start of a pulse -/

@[simp] theorem State.startPulse_timeBase : (s.startPulse).timeBase = s.timeBase := rfl
@[simp] theorem State.startPulse_powerOn : (s.startPulse).powerOn = s.powerOn := rfl
@[simp] theorem State.startPulse_rstAsserted : (s.startPulse).rstAsserted = s.rstAsserted := rfl
@[simp] theorem State.startPulse_answers : (s.startPulse).answers = s.answers := rfl
@[simp] theorem State.startPulse_table : (s.startPulse).table = s.table := rfl
@[simp] theorem State.startPulse_deliveries : (s.startPulse).deliveries = s.deliveries := rfl
@[simp] theorem State.startPulse_mtags : (s.startPulse).mtags = s.mtags := rfl
@[simp] theorem State.startPulse_onOffer : (s.startPulse).onOffer = s.onOffer := rfl
@[simp] theorem State.startPulse_port : (s.startPulse).port = s.port := rfl
@[simp] theorem State.startPulse_regions : (s.startPulse).regions = s.regions := rfl
@[simp] theorem State.startPulse_groups : (s.startPulse).groups = s.groups := rfl
@[simp] theorem State.startPulse_matchers : (s.startPulse).matchers = s.matchers := rfl
@[simp] theorem State.startPulse_pulse : (s.startPulse).pulse = some (afterMs s.timeBase s.timing.pulseLength.toNat) := rfl
@[simp] theorem State.startPulse_records : (s.startPulse).records = s.records := rfl
@[simp] theorem State.startPulse_nextSeq : (s.startPulse).nextSeq = s.nextSeq := rfl
@[simp] theorem State.startPulse_lost : (s.startPulse).lost = s.lost := rfl
@[simp] theorem State.startPulse_firstLoss : (s.startPulse).firstLoss = s.firstLoss := rfl
@[simp] theorem State.startPulse_latestLoss : (s.startPulse).latestLoss = s.latestLoss := rfl
@[simp] theorem State.startPulse_openUntil : (s.startPulse).openUntil = s.openUntil := rfl
@[simp] theorem State.startPulse_taking : (s.startPulse).taking = s.taking := rfl
@[simp] theorem State.startPulse_latches : (s.startPulse).latches = s.latches := rfl
@[simp] theorem State.startPulse_mask : (s.startPulse).mask = s.mask := rfl
@[simp] theorem State.startPulse_gap : (s.startPulse).gap = s.gap := rfl
@[simp] theorem State.startPulse_mode : (s.startPulse).mode = s.mode := rfl
@[simp] theorem State.startPulse_lock : (s.startPulse).lock = s.lock := rfl
@[simp] theorem State.startPulse_timing : (s.startPulse).timing = s.timing := rfl
@[simp] theorem State.startPulse_frame : (s.startPulse).frame = s.frame := rfl
@[simp] theorem State.startPulse_choices : (s.startPulse).choices = s.choices := rfl
@[simp] theorem State.startPulse_pending : (s.startPulse).pending = s.pending := rfl

/-! ### A promotion -/

@[simp] theorem State.promote_timeBase : (s.promote).timeBase = s.timeBase := rfl
@[simp] theorem State.promote_powerOn : (s.promote).powerOn = s.powerOn := rfl
@[simp] theorem State.promote_rstAsserted : (s.promote).rstAsserted = s.rstAsserted := rfl
@[simp] theorem State.promote_answers : (s.promote).answers = s.answers := rfl
@[simp] theorem State.promote_table : (s.promote).table = promoteFrom s.orphanWords s.table := rfl
@[simp] theorem State.promote_deliveries : (s.promote).deliveries = s.deliveries := rfl
@[simp] theorem State.promote_mtags : (s.promote).mtags = s.mtags := rfl
@[simp] theorem State.promote_onOffer : (s.promote).onOffer = s.onOffer := rfl
@[simp] theorem State.promote_port : (s.promote).port = s.port := rfl
@[simp] theorem State.promote_regions : (s.promote).regions = s.regions := rfl
@[simp] theorem State.promote_groups : (s.promote).groups = s.groups := rfl
@[simp] theorem State.promote_matchers : (s.promote).matchers = s.matchers := rfl
@[simp] theorem State.promote_pulse : (s.promote).pulse = s.pulse := rfl
@[simp] theorem State.promote_records : (s.promote).records = s.records := rfl
@[simp] theorem State.promote_nextSeq : (s.promote).nextSeq = s.nextSeq := rfl
@[simp] theorem State.promote_lost : (s.promote).lost = s.lost := rfl
@[simp] theorem State.promote_firstLoss : (s.promote).firstLoss = s.firstLoss := rfl
@[simp] theorem State.promote_latestLoss : (s.promote).latestLoss = s.latestLoss := rfl
@[simp] theorem State.promote_openUntil : (s.promote).openUntil = s.openUntil := rfl
@[simp] theorem State.promote_taking : (s.promote).taking = s.taking := rfl
@[simp] theorem State.promote_latches : (s.promote).latches = s.latches := rfl
@[simp] theorem State.promote_mask : (s.promote).mask = s.mask := rfl
@[simp] theorem State.promote_gap : (s.promote).gap = s.gap := rfl
@[simp] theorem State.promote_mode : (s.promote).mode = s.mode := rfl
@[simp] theorem State.promote_lock : (s.promote).lock = s.lock := rfl
@[simp] theorem State.promote_timing : (s.promote).timing = s.timing := rfl
@[simp] theorem State.promote_frame : (s.promote).frame = s.frame := rfl
@[simp] theorem State.promote_choices : (s.promote).choices = s.choices := rfl
@[simp] theorem State.promote_pending : (s.promote).pending = s.pending := rfl

/-! ### A response formed -/

section

variable (h : HTag) (st : HostStatus) (d : Word)

@[simp] theorem State.complete_timeBase : (s.complete h st d).timeBase = s.timeBase := rfl
@[simp] theorem State.complete_powerOn : (s.complete h st d).powerOn = s.powerOn := rfl
@[simp] theorem State.complete_rstAsserted : (s.complete h st d).rstAsserted = s.rstAsserted := rfl
@[simp] theorem State.complete_answers : (s.complete h st d).answers = s.answers := rfl
@[simp] theorem State.complete_deliveries : (s.complete h st d).deliveries = s.deliveries ++ [h] := rfl
@[simp] theorem State.complete_mtags : (s.complete h st d).mtags = s.mtags := rfl
@[simp] theorem State.complete_onOffer : (s.complete h st d).onOffer = s.onOffer := rfl
@[simp] theorem State.complete_port : (s.complete h st d).port = s.port := rfl
@[simp] theorem State.complete_regions : (s.complete h st d).regions = s.regions := rfl
@[simp] theorem State.complete_groups : (s.complete h st d).groups = s.groups := rfl
@[simp] theorem State.complete_matchers : (s.complete h st d).matchers = s.matchers := rfl
@[simp] theorem State.complete_pulse : (s.complete h st d).pulse = s.pulse := rfl
@[simp] theorem State.complete_records : (s.complete h st d).records = s.records := rfl
@[simp] theorem State.complete_nextSeq : (s.complete h st d).nextSeq = s.nextSeq := rfl
@[simp] theorem State.complete_lost : (s.complete h st d).lost = s.lost := rfl
@[simp] theorem State.complete_firstLoss : (s.complete h st d).firstLoss = s.firstLoss := rfl
@[simp] theorem State.complete_latestLoss : (s.complete h st d).latestLoss = s.latestLoss := rfl
@[simp] theorem State.complete_openUntil : (s.complete h st d).openUntil = s.openUntil := rfl
@[simp] theorem State.complete_taking : (s.complete h st d).taking = s.taking := rfl
@[simp] theorem State.complete_latches : (s.complete h st d).latches = s.latches := rfl
@[simp] theorem State.complete_mask : (s.complete h st d).mask = s.mask := rfl
@[simp] theorem State.complete_gap : (s.complete h st d).gap = s.gap := rfl
@[simp] theorem State.complete_mode : (s.complete h st d).mode = s.mode := rfl
@[simp] theorem State.complete_lock : (s.complete h st d).lock = s.lock := rfl
@[simp] theorem State.complete_timing : (s.complete h st d).timing = s.timing := rfl
@[simp] theorem State.complete_frame : (s.complete h st d).frame = s.frame := rfl
@[simp] theorem State.complete_choices : (s.complete h st d).choices = s.choices := rfl
@[simp] theorem State.complete_pending : (s.complete h st d).pending = s.pending := rfl

end

/-! ### The link's answer -/

section

variable (c : Command) (r : Result) (b : List Byte)

@[simp] theorem State.answered_timeBase : (s.answered c r b).timeBase = s.timeBase := rfl
@[simp] theorem State.answered_powerOn : (s.answered c r b).powerOn = s.powerOn := rfl
@[simp] theorem State.answered_rstAsserted : (s.answered c r b).rstAsserted = s.rstAsserted := rfl
@[simp] theorem State.answered_answers : (s.answered c r b).answers = s.answers := rfl
@[simp] theorem State.answered_table : (s.answered c r b).table = s.table := rfl
@[simp] theorem State.answered_deliveries : (s.answered c r b).deliveries = s.deliveries := rfl
@[simp] theorem State.answered_mtags : (s.answered c r b).mtags = s.mtags := rfl
@[simp] theorem State.answered_onOffer : (s.answered c r b).onOffer = s.onOffer := rfl
@[simp] theorem State.answered_port : (s.answered c r b).port = s.port := rfl
@[simp] theorem State.answered_regions : (s.answered c r b).regions = s.regions := rfl
@[simp] theorem State.answered_groups : (s.answered c r b).groups = s.groups := rfl
@[simp] theorem State.answered_matchers : (s.answered c r b).matchers = s.matchers := rfl
@[simp] theorem State.answered_pulse : (s.answered c r b).pulse = s.pulse := rfl
@[simp] theorem State.answered_records : (s.answered c r b).records = s.records := rfl
@[simp] theorem State.answered_nextSeq : (s.answered c r b).nextSeq = s.nextSeq := rfl
@[simp] theorem State.answered_lost : (s.answered c r b).lost = s.lost := rfl
@[simp] theorem State.answered_firstLoss : (s.answered c r b).firstLoss = s.firstLoss := rfl
@[simp] theorem State.answered_latestLoss : (s.answered c r b).latestLoss = s.latestLoss := rfl
@[simp] theorem State.answered_openUntil : (s.answered c r b).openUntil = s.openUntil := rfl
@[simp] theorem State.answered_taking : (s.answered c r b).taking = false := rfl
@[simp] theorem State.answered_latches : (s.answered c r b).latches = s.latches := rfl
@[simp] theorem State.answered_mask : (s.answered c r b).mask = s.mask := rfl
@[simp] theorem State.answered_gap : (s.answered c r b).gap = s.gap := rfl
@[simp] theorem State.answered_mode : (s.answered c r b).mode = s.mode := rfl
@[simp] theorem State.answered_lock : (s.answered c r b).lock = s.lock := rfl
@[simp] theorem State.answered_timing : (s.answered c r b).timing = s.timing := rfl
@[simp] theorem State.answered_frame : (s.answered c r b).frame = .output c .turnaround r b := rfl
@[simp] theorem State.answered_choices : (s.answered c r b).choices = s.choices := rfl
@[simp] theorem State.answered_pending : (s.answered c r b).pending = s.pending := rfl

end

/-! ### The log of another state -/

@[simp] theorem State.logFrom_timeBase : (s.logFrom t).timeBase = s.timeBase := rfl
@[simp] theorem State.logFrom_powerOn : (s.logFrom t).powerOn = s.powerOn := rfl
@[simp] theorem State.logFrom_rstAsserted : (s.logFrom t).rstAsserted = s.rstAsserted := rfl
@[simp] theorem State.logFrom_answers : (s.logFrom t).answers = s.answers := rfl
@[simp] theorem State.logFrom_table : (s.logFrom t).table = s.table := rfl
@[simp] theorem State.logFrom_deliveries : (s.logFrom t).deliveries = s.deliveries := rfl
@[simp] theorem State.logFrom_mtags : (s.logFrom t).mtags = s.mtags := rfl
@[simp] theorem State.logFrom_onOffer : (s.logFrom t).onOffer = s.onOffer := rfl
@[simp] theorem State.logFrom_port : (s.logFrom t).port = s.port := rfl
@[simp] theorem State.logFrom_regions : (s.logFrom t).regions = s.regions := rfl
@[simp] theorem State.logFrom_groups : (s.logFrom t).groups = s.groups := rfl
@[simp] theorem State.logFrom_matchers : (s.logFrom t).matchers = s.matchers := rfl
@[simp] theorem State.logFrom_pulse : (s.logFrom t).pulse = s.pulse := rfl
@[simp] theorem State.logFrom_records : (s.logFrom t).records = t.records := rfl
@[simp] theorem State.logFrom_nextSeq : (s.logFrom t).nextSeq = t.nextSeq := rfl
@[simp] theorem State.logFrom_lost : (s.logFrom t).lost = t.lost := rfl
@[simp] theorem State.logFrom_firstLoss : (s.logFrom t).firstLoss = t.firstLoss := rfl
@[simp] theorem State.logFrom_latestLoss : (s.logFrom t).latestLoss = t.latestLoss := rfl
@[simp] theorem State.logFrom_openUntil : (s.logFrom t).openUntil = t.openUntil := rfl
@[simp] theorem State.logFrom_taking : (s.logFrom t).taking = s.taking := rfl
@[simp] theorem State.logFrom_latches : (s.logFrom t).latches = t.latches := rfl
@[simp] theorem State.logFrom_mask : (s.logFrom t).mask = s.mask := rfl
@[simp] theorem State.logFrom_gap : (s.logFrom t).gap = s.gap := rfl
@[simp] theorem State.logFrom_mode : (s.logFrom t).mode = s.mode := rfl
@[simp] theorem State.logFrom_lock : (s.logFrom t).lock = s.lock := rfl
@[simp] theorem State.logFrom_timing : (s.logFrom t).timing = s.timing := rfl
@[simp] theorem State.logFrom_frame : (s.logFrom t).frame = s.frame := rfl
@[simp] theorem State.logFrom_choices : (s.logFrom t).choices = s.choices := rfl
@[simp] theorem State.logFrom_pending : (s.logFrom t).pending = s.pending := rfl

/-! ### The grants of another state -/

@[simp] theorem State.grantsFrom_timeBase : (s.grantsFrom t).timeBase = s.timeBase := rfl
@[simp] theorem State.grantsFrom_powerOn : (s.grantsFrom t).powerOn = s.powerOn := rfl
@[simp] theorem State.grantsFrom_rstAsserted : (s.grantsFrom t).rstAsserted = s.rstAsserted := rfl
@[simp] theorem State.grantsFrom_answers : (s.grantsFrom t).answers = s.answers := rfl
@[simp] theorem State.grantsFrom_table : (s.grantsFrom t).table = t.table := rfl
@[simp] theorem State.grantsFrom_deliveries : (s.grantsFrom t).deliveries = s.deliveries := rfl
@[simp] theorem State.grantsFrom_mtags : (s.grantsFrom t).mtags = t.mtags := rfl
@[simp] theorem State.grantsFrom_onOffer : (s.grantsFrom t).onOffer = t.onOffer := rfl
@[simp] theorem State.grantsFrom_port : (s.grantsFrom t).port = s.port := rfl
@[simp] theorem State.grantsFrom_regions : (s.grantsFrom t).regions = s.regions := rfl
@[simp] theorem State.grantsFrom_groups : (s.grantsFrom t).groups = s.groups := rfl
@[simp] theorem State.grantsFrom_matchers : (s.grantsFrom t).matchers = s.matchers := rfl
@[simp] theorem State.grantsFrom_pulse : (s.grantsFrom t).pulse = s.pulse := rfl
@[simp] theorem State.grantsFrom_records : (s.grantsFrom t).records = s.records := rfl
@[simp] theorem State.grantsFrom_nextSeq : (s.grantsFrom t).nextSeq = s.nextSeq := rfl
@[simp] theorem State.grantsFrom_lost : (s.grantsFrom t).lost = s.lost := rfl
@[simp] theorem State.grantsFrom_firstLoss : (s.grantsFrom t).firstLoss = s.firstLoss := rfl
@[simp] theorem State.grantsFrom_latestLoss : (s.grantsFrom t).latestLoss = s.latestLoss := rfl
@[simp] theorem State.grantsFrom_openUntil : (s.grantsFrom t).openUntil = s.openUntil := rfl
@[simp] theorem State.grantsFrom_taking : (s.grantsFrom t).taking = s.taking := rfl
@[simp] theorem State.grantsFrom_latches : (s.grantsFrom t).latches = s.latches := rfl
@[simp] theorem State.grantsFrom_mask : (s.grantsFrom t).mask = s.mask := rfl
@[simp] theorem State.grantsFrom_gap : (s.grantsFrom t).gap = s.gap := rfl
@[simp] theorem State.grantsFrom_mode : (s.grantsFrom t).mode = s.mode := rfl
@[simp] theorem State.grantsFrom_lock : (s.grantsFrom t).lock = s.lock := rfl
@[simp] theorem State.grantsFrom_timing : (s.grantsFrom t).timing = s.timing := rfl
@[simp] theorem State.grantsFrom_frame : (s.grantsFrom t).frame = s.frame := rfl
@[simp] theorem State.grantsFrom_choices : (s.grantsFrom t).choices = s.choices := rfl
@[simp] theorem State.grantsFrom_pending : (s.grantsFrom t).pending = s.pending := rfl

/-! ### Reading what was written -/

@[simp] theorem State.tag_setTag (m n : MTag) (e : TagEntry) :
    (s.setTag m e).tag n = if m = n then e else s.tag n := by
  simp [State.tag, State.setTag, Vector.getElem_set, Fin.ext_iff]

@[simp] theorem State.group_setGroup (g h : GroupIndex) (x : Group) :
    (s.setGroup g x).group h = if g = h then x else s.group h := by
  simp [State.group, State.setGroup, Vector.getElem_set, Fin.ext_iff]

@[simp] theorem State.matcher_setMatcher (m n : MatcherIndex) (x : Option Matcher) :
    (s.setMatcher m x).matcher n = if m = n then x else s.matcher n := by
  simp [State.matcher, State.setMatcher, Vector.getElem_set, Fin.ext_iff]

@[simp] theorem State.region_setRegion (i j : RegionIndex) (x : Option Region) :
    (s.setRegion i x).region j = if i = j then x else s.region j := by
  simp [State.region, State.setRegion, Vector.getElem_set, Fin.ext_iff]

end Sys2Proof.Machine
end

