-- ==== Sys2Proof/Laws/Ops.lean ====
section
/-! SUPPORT. What each shared operation can do: first its cases or its frame as one equation, then one lemma for each
field it leaves alone, which later proofs cite instead of unfolding the operation. -/

namespace Sys2Proof.Machine

variable (s : State)

/-! ### The event log -/

theorem State.latchLogAtThreshold_cases :
    s.latchLogAtThreshold = s ∧ s.atThreshold = false ∨ s.latchLogAtThreshold = s.latch .log ∧ s.atThreshold = true := by
  unfold State.latchLogAtThreshold
  cases s.atThreshold
  · exact .inl ⟨rfl, rfl⟩
  · exact .inr ⟨rfl, rfl⟩

/-- The threshold's latch touches the latches alone. -/
theorem State.latchLogAtThreshold_touches :
    s.latchLogAtThreshold = { s with latches := s.latchLogAtThreshold.latches } := by
  obtain ⟨h, -⟩ | ⟨h, -⟩ := s.latchLogAtThreshold_cases
  · rw [h]
  · rw [h]; rfl

/-- An append request coalesces, makes a record, or is lost (R137). -/
theorem State.appendEvent_cases (e : Event) :
    (s.coalesces e = true ∧ s.appendEvent e = s.coalesceNewest e)
    ∨ (s.coalesces e = false ∧ s.records.length < 16 ∧ s.appendEvent e = s.pushRecord e s.timeBase s.timeBase)
    ∨ (s.coalesces e = false ∧ 16 ≤ s.records.length ∧ s.appendEvent e = s.loseEvent) := by
  unfold State.appendEvent logCapacity
  cases h : s.coalesces e
  · by_cases hl : s.records.length < 16
    · exact .inr (.inl ⟨rfl, hl, by simp [hl]⟩)
    · exact .inr (.inr ⟨rfl, by omega, by simp [hl]⟩)
  · exact .inl ⟨rfl, by simp⟩

/-- A new record touches the log and the latches alone. -/
theorem State.pushRecord_touches (e : Event) (a b : Time) :
    s.pushRecord e a b = s.logFrom (s.pushRecord e a b) := by
  unfold State.pushRecord
  rw [State.latchLogAtThreshold_touches]
  rfl

/-- An append request touches the log and the latches alone. -/
theorem State.appendEvent_touches (e : Event) : s.appendEvent e = s.logFrom (s.appendEvent e) := by
  obtain ⟨-, h⟩ | ⟨-, -, h⟩ | ⟨-, -, h⟩ := s.appendEvent_cases e <;> rw [h]
  · rfl
  · exact s.pushRecord_touches e _ _
  · rfl

section

variable (e : Event)

@[simp] theorem State.appendEvent_timeBase : (s.appendEvent e).timeBase = s.timeBase := by rw [s.appendEvent_touches e]; rfl
@[simp] theorem State.appendEvent_powerOn : (s.appendEvent e).powerOn = s.powerOn := by rw [s.appendEvent_touches e]; rfl
@[simp] theorem State.appendEvent_rstAsserted : (s.appendEvent e).rstAsserted = s.rstAsserted := by rw [s.appendEvent_touches e]; rfl
@[simp] theorem State.appendEvent_answers : (s.appendEvent e).answers = s.answers := by rw [s.appendEvent_touches e]; rfl
@[simp] theorem State.appendEvent_table : (s.appendEvent e).table = s.table := by rw [s.appendEvent_touches e]; rfl
@[simp] theorem State.appendEvent_deliveries : (s.appendEvent e).deliveries = s.deliveries := by rw [s.appendEvent_touches e]; rfl
@[simp] theorem State.appendEvent_mtags : (s.appendEvent e).mtags = s.mtags := by rw [s.appendEvent_touches e]; rfl
@[simp] theorem State.appendEvent_onOffer : (s.appendEvent e).onOffer = s.onOffer := by rw [s.appendEvent_touches e]; rfl
@[simp] theorem State.appendEvent_port : (s.appendEvent e).port = s.port := by rw [s.appendEvent_touches e]; rfl
@[simp] theorem State.appendEvent_regions : (s.appendEvent e).regions = s.regions := by rw [s.appendEvent_touches e]; rfl
@[simp] theorem State.appendEvent_groups : (s.appendEvent e).groups = s.groups := by rw [s.appendEvent_touches e]; rfl
@[simp] theorem State.appendEvent_matchers : (s.appendEvent e).matchers = s.matchers := by rw [s.appendEvent_touches e]; rfl
@[simp] theorem State.appendEvent_pulse : (s.appendEvent e).pulse = s.pulse := by rw [s.appendEvent_touches e]; rfl
@[simp] theorem State.appendEvent_taking : (s.appendEvent e).taking = s.taking := by rw [s.appendEvent_touches e]; rfl
@[simp] theorem State.appendEvent_mask : (s.appendEvent e).mask = s.mask := by rw [s.appendEvent_touches e]; rfl
@[simp] theorem State.appendEvent_gap : (s.appendEvent e).gap = s.gap := by rw [s.appendEvent_touches e]; rfl
@[simp] theorem State.appendEvent_mode : (s.appendEvent e).mode = s.mode := by rw [s.appendEvent_touches e]; rfl
@[simp] theorem State.appendEvent_lock : (s.appendEvent e).lock = s.lock := by rw [s.appendEvent_touches e]; rfl
@[simp] theorem State.appendEvent_timing : (s.appendEvent e).timing = s.timing := by rw [s.appendEvent_touches e]; rfl
@[simp] theorem State.appendEvent_frame : (s.appendEvent e).frame = s.frame := by rw [s.appendEvent_touches e]; rfl
@[simp] theorem State.appendEvent_choices : (s.appendEvent e).choices = s.choices := by rw [s.appendEvent_touches e]; rfl
@[simp] theorem State.appendEvent_pending : (s.appendEvent e).pending = s.pending := by rw [s.appendEvent_touches e]; rfl

end

/-! ### An open request -/

/-- An open request touches the groups, the log and the latches alone. -/
theorem State.openGroup_touches (g : GroupIndex) (d : BitVec 16) (m : Option MatcherIndex) :
    ∃ u : State, s.openGroup g d m =
      { s.logFrom u with groups := u.groups } := by
  unfold State.openGroup
  refine ⟨s.openGroup g d m, ?_⟩
  unfold State.openGroup
  split <;> dsimp only
  · rw [State.appendEvent_touches]; rfl
  · split <;> (rw [State.appendEvent_touches]; rfl)
  · rw [State.appendEvent_touches]; rfl

section

variable (g : GroupIndex) (d : BitVec 16) (m : Option MatcherIndex)

@[simp] theorem State.openGroup_timeBase : (s.openGroup g d m).timeBase = s.timeBase := by
  obtain ⟨u, h⟩ := s.openGroup_touches g d m; rw [h]; rfl
@[simp] theorem State.openGroup_powerOn : (s.openGroup g d m).powerOn = s.powerOn := by
  obtain ⟨u, h⟩ := s.openGroup_touches g d m; rw [h]; rfl
@[simp] theorem State.openGroup_rstAsserted : (s.openGroup g d m).rstAsserted = s.rstAsserted := by
  obtain ⟨u, h⟩ := s.openGroup_touches g d m; rw [h]; rfl
@[simp] theorem State.openGroup_answers : (s.openGroup g d m).answers = s.answers := by
  obtain ⟨u, h⟩ := s.openGroup_touches g d m; rw [h]; rfl
@[simp] theorem State.openGroup_table : (s.openGroup g d m).table = s.table := by
  obtain ⟨u, h⟩ := s.openGroup_touches g d m; rw [h]; rfl
@[simp] theorem State.openGroup_deliveries : (s.openGroup g d m).deliveries = s.deliveries := by
  obtain ⟨u, h⟩ := s.openGroup_touches g d m; rw [h]; rfl
@[simp] theorem State.openGroup_mtags : (s.openGroup g d m).mtags = s.mtags := by
  obtain ⟨u, h⟩ := s.openGroup_touches g d m; rw [h]; rfl
@[simp] theorem State.openGroup_onOffer : (s.openGroup g d m).onOffer = s.onOffer := by
  obtain ⟨u, h⟩ := s.openGroup_touches g d m; rw [h]; rfl
@[simp] theorem State.openGroup_port : (s.openGroup g d m).port = s.port := by
  obtain ⟨u, h⟩ := s.openGroup_touches g d m; rw [h]; rfl
@[simp] theorem State.openGroup_regions : (s.openGroup g d m).regions = s.regions := by
  obtain ⟨u, h⟩ := s.openGroup_touches g d m; rw [h]; rfl
@[simp] theorem State.openGroup_matchers : (s.openGroup g d m).matchers = s.matchers := by
  obtain ⟨u, h⟩ := s.openGroup_touches g d m; rw [h]; rfl
@[simp] theorem State.openGroup_pulse : (s.openGroup g d m).pulse = s.pulse := by
  obtain ⟨u, h⟩ := s.openGroup_touches g d m; rw [h]; rfl
@[simp] theorem State.openGroup_taking : (s.openGroup g d m).taking = s.taking := by
  obtain ⟨u, h⟩ := s.openGroup_touches g d m; rw [h]; rfl
@[simp] theorem State.openGroup_mask : (s.openGroup g d m).mask = s.mask := by
  obtain ⟨u, h⟩ := s.openGroup_touches g d m; rw [h]; rfl
@[simp] theorem State.openGroup_gap : (s.openGroup g d m).gap = s.gap := by
  obtain ⟨u, h⟩ := s.openGroup_touches g d m; rw [h]; rfl
@[simp] theorem State.openGroup_mode : (s.openGroup g d m).mode = s.mode := by
  obtain ⟨u, h⟩ := s.openGroup_touches g d m; rw [h]; rfl
@[simp] theorem State.openGroup_lock : (s.openGroup g d m).lock = s.lock := by
  obtain ⟨u, h⟩ := s.openGroup_touches g d m; rw [h]; rfl
@[simp] theorem State.openGroup_timing : (s.openGroup g d m).timing = s.timing := by
  obtain ⟨u, h⟩ := s.openGroup_touches g d m; rw [h]; rfl
@[simp] theorem State.openGroup_frame : (s.openGroup g d m).frame = s.frame := by
  obtain ⟨u, h⟩ := s.openGroup_touches g d m; rw [h]; rfl
@[simp] theorem State.openGroup_choices : (s.openGroup g d m).choices = s.choices := by
  obtain ⟨u, h⟩ := s.openGroup_touches g d m; rw [h]; rfl
@[simp] theorem State.openGroup_pending : (s.openGroup g d m).pending = s.pending := by
  obtain ⟨u, h⟩ := s.openGroup_touches g d m; rw [h]; rfl

end

/-! ### A close request -/

/-- A close request touches the groups, the log and the latches alone. -/
theorem State.closeGroup_touches (g : GroupIndex) :
    ∃ u : State, s.closeGroup g =
      { s.logFrom u with groups := u.groups } := by
  refine ⟨s.closeGroup g, ?_⟩
  unfold State.closeGroup
  split
  · rw [State.appendEvent_touches]; rfl
  · rfl
  · rfl

section

variable (g : GroupIndex)

@[simp] theorem State.closeGroup_timeBase : (s.closeGroup g).timeBase = s.timeBase := by
  obtain ⟨u, h⟩ := s.closeGroup_touches g; rw [h]; rfl
@[simp] theorem State.closeGroup_powerOn : (s.closeGroup g).powerOn = s.powerOn := by
  obtain ⟨u, h⟩ := s.closeGroup_touches g; rw [h]; rfl
@[simp] theorem State.closeGroup_rstAsserted : (s.closeGroup g).rstAsserted = s.rstAsserted := by
  obtain ⟨u, h⟩ := s.closeGroup_touches g; rw [h]; rfl
@[simp] theorem State.closeGroup_answers : (s.closeGroup g).answers = s.answers := by
  obtain ⟨u, h⟩ := s.closeGroup_touches g; rw [h]; rfl
@[simp] theorem State.closeGroup_table : (s.closeGroup g).table = s.table := by
  obtain ⟨u, h⟩ := s.closeGroup_touches g; rw [h]; rfl
@[simp] theorem State.closeGroup_deliveries : (s.closeGroup g).deliveries = s.deliveries := by
  obtain ⟨u, h⟩ := s.closeGroup_touches g; rw [h]; rfl
@[simp] theorem State.closeGroup_mtags : (s.closeGroup g).mtags = s.mtags := by
  obtain ⟨u, h⟩ := s.closeGroup_touches g; rw [h]; rfl
@[simp] theorem State.closeGroup_onOffer : (s.closeGroup g).onOffer = s.onOffer := by
  obtain ⟨u, h⟩ := s.closeGroup_touches g; rw [h]; rfl
@[simp] theorem State.closeGroup_port : (s.closeGroup g).port = s.port := by
  obtain ⟨u, h⟩ := s.closeGroup_touches g; rw [h]; rfl
@[simp] theorem State.closeGroup_regions : (s.closeGroup g).regions = s.regions := by
  obtain ⟨u, h⟩ := s.closeGroup_touches g; rw [h]; rfl
@[simp] theorem State.closeGroup_matchers : (s.closeGroup g).matchers = s.matchers := by
  obtain ⟨u, h⟩ := s.closeGroup_touches g; rw [h]; rfl
@[simp] theorem State.closeGroup_pulse : (s.closeGroup g).pulse = s.pulse := by
  obtain ⟨u, h⟩ := s.closeGroup_touches g; rw [h]; rfl
@[simp] theorem State.closeGroup_taking : (s.closeGroup g).taking = s.taking := by
  obtain ⟨u, h⟩ := s.closeGroup_touches g; rw [h]; rfl
@[simp] theorem State.closeGroup_mask : (s.closeGroup g).mask = s.mask := by
  obtain ⟨u, h⟩ := s.closeGroup_touches g; rw [h]; rfl
@[simp] theorem State.closeGroup_gap : (s.closeGroup g).gap = s.gap := by
  obtain ⟨u, h⟩ := s.closeGroup_touches g; rw [h]; rfl
@[simp] theorem State.closeGroup_mode : (s.closeGroup g).mode = s.mode := by
  obtain ⟨u, h⟩ := s.closeGroup_touches g; rw [h]; rfl
@[simp] theorem State.closeGroup_lock : (s.closeGroup g).lock = s.lock := by
  obtain ⟨u, h⟩ := s.closeGroup_touches g; rw [h]; rfl
@[simp] theorem State.closeGroup_timing : (s.closeGroup g).timing = s.timing := by
  obtain ⟨u, h⟩ := s.closeGroup_touches g; rw [h]; rfl
@[simp] theorem State.closeGroup_frame : (s.closeGroup g).frame = s.frame := by
  obtain ⟨u, h⟩ := s.closeGroup_touches g; rw [h]; rfl
@[simp] theorem State.closeGroup_choices : (s.closeGroup g).choices = s.choices := by
  obtain ⟨u, h⟩ := s.closeGroup_touches g; rw [h]; rfl
@[simp] theorem State.closeGroup_pending : (s.closeGroup g).pending = s.pending := by
  obtain ⟨u, h⟩ := s.closeGroup_touches g; rw [h]; rfl

end

/-! ### A freeze request -/

/-- A freeze request touches the groups, the log and the latches alone. -/
theorem State.freezeGroup_touches (g : GroupIndex) (m : Option MatcherIndex) :
    ∃ u : State, s.freezeGroup g m =
      { s.logFrom u with groups := u.groups } := by
  refine ⟨s.freezeGroup g m, ?_⟩
  unfold State.freezeGroup
  split
  · rfl
  · rw [State.appendEvent_touches]; rfl
  · rw [State.appendEvent_touches]; rfl

section

variable (g : GroupIndex) (m : Option MatcherIndex)

@[simp] theorem State.freezeGroup_timeBase : (s.freezeGroup g m).timeBase = s.timeBase := by
  obtain ⟨u, h⟩ := s.freezeGroup_touches g m; rw [h]; rfl
@[simp] theorem State.freezeGroup_powerOn : (s.freezeGroup g m).powerOn = s.powerOn := by
  obtain ⟨u, h⟩ := s.freezeGroup_touches g m; rw [h]; rfl
@[simp] theorem State.freezeGroup_rstAsserted : (s.freezeGroup g m).rstAsserted = s.rstAsserted := by
  obtain ⟨u, h⟩ := s.freezeGroup_touches g m; rw [h]; rfl
@[simp] theorem State.freezeGroup_answers : (s.freezeGroup g m).answers = s.answers := by
  obtain ⟨u, h⟩ := s.freezeGroup_touches g m; rw [h]; rfl
@[simp] theorem State.freezeGroup_table : (s.freezeGroup g m).table = s.table := by
  obtain ⟨u, h⟩ := s.freezeGroup_touches g m; rw [h]; rfl
@[simp] theorem State.freezeGroup_deliveries : (s.freezeGroup g m).deliveries = s.deliveries := by
  obtain ⟨u, h⟩ := s.freezeGroup_touches g m; rw [h]; rfl
@[simp] theorem State.freezeGroup_mtags : (s.freezeGroup g m).mtags = s.mtags := by
  obtain ⟨u, h⟩ := s.freezeGroup_touches g m; rw [h]; rfl
@[simp] theorem State.freezeGroup_onOffer : (s.freezeGroup g m).onOffer = s.onOffer := by
  obtain ⟨u, h⟩ := s.freezeGroup_touches g m; rw [h]; rfl
@[simp] theorem State.freezeGroup_port : (s.freezeGroup g m).port = s.port := by
  obtain ⟨u, h⟩ := s.freezeGroup_touches g m; rw [h]; rfl
@[simp] theorem State.freezeGroup_regions : (s.freezeGroup g m).regions = s.regions := by
  obtain ⟨u, h⟩ := s.freezeGroup_touches g m; rw [h]; rfl
@[simp] theorem State.freezeGroup_matchers : (s.freezeGroup g m).matchers = s.matchers := by
  obtain ⟨u, h⟩ := s.freezeGroup_touches g m; rw [h]; rfl
@[simp] theorem State.freezeGroup_pulse : (s.freezeGroup g m).pulse = s.pulse := by
  obtain ⟨u, h⟩ := s.freezeGroup_touches g m; rw [h]; rfl
@[simp] theorem State.freezeGroup_taking : (s.freezeGroup g m).taking = s.taking := by
  obtain ⟨u, h⟩ := s.freezeGroup_touches g m; rw [h]; rfl
@[simp] theorem State.freezeGroup_mask : (s.freezeGroup g m).mask = s.mask := by
  obtain ⟨u, h⟩ := s.freezeGroup_touches g m; rw [h]; rfl
@[simp] theorem State.freezeGroup_gap : (s.freezeGroup g m).gap = s.gap := by
  obtain ⟨u, h⟩ := s.freezeGroup_touches g m; rw [h]; rfl
@[simp] theorem State.freezeGroup_mode : (s.freezeGroup g m).mode = s.mode := by
  obtain ⟨u, h⟩ := s.freezeGroup_touches g m; rw [h]; rfl
@[simp] theorem State.freezeGroup_lock : (s.freezeGroup g m).lock = s.lock := by
  obtain ⟨u, h⟩ := s.freezeGroup_touches g m; rw [h]; rfl
@[simp] theorem State.freezeGroup_timing : (s.freezeGroup g m).timing = s.timing := by
  obtain ⟨u, h⟩ := s.freezeGroup_touches g m; rw [h]; rfl
@[simp] theorem State.freezeGroup_frame : (s.freezeGroup g m).frame = s.frame := by
  obtain ⟨u, h⟩ := s.freezeGroup_touches g m; rw [h]; rfl
@[simp] theorem State.freezeGroup_choices : (s.freezeGroup g m).choices = s.choices := by
  obtain ⟨u, h⟩ := s.freezeGroup_touches g m; rw [h]; rfl
@[simp] theorem State.freezeGroup_pending : (s.freezeGroup g m).pending = s.pending := by
  obtain ⟨u, h⟩ := s.freezeGroup_touches g m; rw [h]; rfl

end

/-! ### The expiry of a window -/

/-- The expiry of a window touches the groups, the log and the latches alone. -/
theorem State.expireWindow_touches (g : GroupIndex) :
    ∃ u : State, s.expireWindow g =
      { s.logFrom u with groups := u.groups } := by
  refine ⟨s.expireWindow g, ?_⟩
  unfold State.expireWindow
  split
  · rw [State.appendEvent_touches]; rfl
  · rfl

section

variable (g : GroupIndex)

@[simp] theorem State.expireWindow_timeBase : (s.expireWindow g).timeBase = s.timeBase := by
  obtain ⟨u, h⟩ := s.expireWindow_touches g; rw [h]; rfl
@[simp] theorem State.expireWindow_powerOn : (s.expireWindow g).powerOn = s.powerOn := by
  obtain ⟨u, h⟩ := s.expireWindow_touches g; rw [h]; rfl
@[simp] theorem State.expireWindow_rstAsserted : (s.expireWindow g).rstAsserted = s.rstAsserted := by
  obtain ⟨u, h⟩ := s.expireWindow_touches g; rw [h]; rfl
@[simp] theorem State.expireWindow_answers : (s.expireWindow g).answers = s.answers := by
  obtain ⟨u, h⟩ := s.expireWindow_touches g; rw [h]; rfl
@[simp] theorem State.expireWindow_table : (s.expireWindow g).table = s.table := by
  obtain ⟨u, h⟩ := s.expireWindow_touches g; rw [h]; rfl
@[simp] theorem State.expireWindow_deliveries : (s.expireWindow g).deliveries = s.deliveries := by
  obtain ⟨u, h⟩ := s.expireWindow_touches g; rw [h]; rfl
@[simp] theorem State.expireWindow_mtags : (s.expireWindow g).mtags = s.mtags := by
  obtain ⟨u, h⟩ := s.expireWindow_touches g; rw [h]; rfl
@[simp] theorem State.expireWindow_onOffer : (s.expireWindow g).onOffer = s.onOffer := by
  obtain ⟨u, h⟩ := s.expireWindow_touches g; rw [h]; rfl
@[simp] theorem State.expireWindow_port : (s.expireWindow g).port = s.port := by
  obtain ⟨u, h⟩ := s.expireWindow_touches g; rw [h]; rfl
@[simp] theorem State.expireWindow_regions : (s.expireWindow g).regions = s.regions := by
  obtain ⟨u, h⟩ := s.expireWindow_touches g; rw [h]; rfl
@[simp] theorem State.expireWindow_matchers : (s.expireWindow g).matchers = s.matchers := by
  obtain ⟨u, h⟩ := s.expireWindow_touches g; rw [h]; rfl
@[simp] theorem State.expireWindow_pulse : (s.expireWindow g).pulse = s.pulse := by
  obtain ⟨u, h⟩ := s.expireWindow_touches g; rw [h]; rfl
@[simp] theorem State.expireWindow_taking : (s.expireWindow g).taking = s.taking := by
  obtain ⟨u, h⟩ := s.expireWindow_touches g; rw [h]; rfl
@[simp] theorem State.expireWindow_mask : (s.expireWindow g).mask = s.mask := by
  obtain ⟨u, h⟩ := s.expireWindow_touches g; rw [h]; rfl
@[simp] theorem State.expireWindow_gap : (s.expireWindow g).gap = s.gap := by
  obtain ⟨u, h⟩ := s.expireWindow_touches g; rw [h]; rfl
@[simp] theorem State.expireWindow_mode : (s.expireWindow g).mode = s.mode := by
  obtain ⟨u, h⟩ := s.expireWindow_touches g; rw [h]; rfl
@[simp] theorem State.expireWindow_lock : (s.expireWindow g).lock = s.lock := by
  obtain ⟨u, h⟩ := s.expireWindow_touches g; rw [h]; rfl
@[simp] theorem State.expireWindow_timing : (s.expireWindow g).timing = s.timing := by
  obtain ⟨u, h⟩ := s.expireWindow_touches g; rw [h]; rfl
@[simp] theorem State.expireWindow_frame : (s.expireWindow g).frame = s.frame := by
  obtain ⟨u, h⟩ := s.expireWindow_touches g; rw [h]; rfl
@[simp] theorem State.expireWindow_choices : (s.expireWindow g).choices = s.choices := by
  obtain ⟨u, h⟩ := s.expireWindow_touches g; rw [h]; rfl
@[simp] theorem State.expireWindow_pending : (s.expireWindow g).pending = s.pending := by
  obtain ⟨u, h⟩ := s.expireWindow_touches g; rw [h]; rfl

end

/-! ### A refusal notice -/

/-- A refusal notice touches the matchers, the log and the latches alone. -/
theorem State.takeRefusal_touches (i : MatcherIndex) (r : RegionIndex) :
    ∃ u : State, s.takeRefusal i r =
      { s.logFrom u with matchers := u.matchers } := by
  refine ⟨s.takeRefusal i r, ?_⟩
  unfold State.takeRefusal
  split
  · rfl
  · split
    · rw [State.appendEvent_touches]; rfl
    · rfl

section

variable (i : MatcherIndex) (r : RegionIndex)

@[simp] theorem State.takeRefusal_timeBase : (s.takeRefusal i r).timeBase = s.timeBase := by
  obtain ⟨u, h⟩ := s.takeRefusal_touches i r; rw [h]; rfl
@[simp] theorem State.takeRefusal_powerOn : (s.takeRefusal i r).powerOn = s.powerOn := by
  obtain ⟨u, h⟩ := s.takeRefusal_touches i r; rw [h]; rfl
@[simp] theorem State.takeRefusal_rstAsserted : (s.takeRefusal i r).rstAsserted = s.rstAsserted := by
  obtain ⟨u, h⟩ := s.takeRefusal_touches i r; rw [h]; rfl
@[simp] theorem State.takeRefusal_answers : (s.takeRefusal i r).answers = s.answers := by
  obtain ⟨u, h⟩ := s.takeRefusal_touches i r; rw [h]; rfl
@[simp] theorem State.takeRefusal_table : (s.takeRefusal i r).table = s.table := by
  obtain ⟨u, h⟩ := s.takeRefusal_touches i r; rw [h]; rfl
@[simp] theorem State.takeRefusal_deliveries : (s.takeRefusal i r).deliveries = s.deliveries := by
  obtain ⟨u, h⟩ := s.takeRefusal_touches i r; rw [h]; rfl
@[simp] theorem State.takeRefusal_mtags : (s.takeRefusal i r).mtags = s.mtags := by
  obtain ⟨u, h⟩ := s.takeRefusal_touches i r; rw [h]; rfl
@[simp] theorem State.takeRefusal_onOffer : (s.takeRefusal i r).onOffer = s.onOffer := by
  obtain ⟨u, h⟩ := s.takeRefusal_touches i r; rw [h]; rfl
@[simp] theorem State.takeRefusal_port : (s.takeRefusal i r).port = s.port := by
  obtain ⟨u, h⟩ := s.takeRefusal_touches i r; rw [h]; rfl
@[simp] theorem State.takeRefusal_regions : (s.takeRefusal i r).regions = s.regions := by
  obtain ⟨u, h⟩ := s.takeRefusal_touches i r; rw [h]; rfl
@[simp] theorem State.takeRefusal_groups : (s.takeRefusal i r).groups = s.groups := by
  obtain ⟨u, h⟩ := s.takeRefusal_touches i r; rw [h]; rfl
@[simp] theorem State.takeRefusal_pulse : (s.takeRefusal i r).pulse = s.pulse := by
  obtain ⟨u, h⟩ := s.takeRefusal_touches i r; rw [h]; rfl
@[simp] theorem State.takeRefusal_taking : (s.takeRefusal i r).taking = s.taking := by
  obtain ⟨u, h⟩ := s.takeRefusal_touches i r; rw [h]; rfl
@[simp] theorem State.takeRefusal_mask : (s.takeRefusal i r).mask = s.mask := by
  obtain ⟨u, h⟩ := s.takeRefusal_touches i r; rw [h]; rfl
@[simp] theorem State.takeRefusal_gap : (s.takeRefusal i r).gap = s.gap := by
  obtain ⟨u, h⟩ := s.takeRefusal_touches i r; rw [h]; rfl
@[simp] theorem State.takeRefusal_mode : (s.takeRefusal i r).mode = s.mode := by
  obtain ⟨u, h⟩ := s.takeRefusal_touches i r; rw [h]; rfl
@[simp] theorem State.takeRefusal_lock : (s.takeRefusal i r).lock = s.lock := by
  obtain ⟨u, h⟩ := s.takeRefusal_touches i r; rw [h]; rfl
@[simp] theorem State.takeRefusal_timing : (s.takeRefusal i r).timing = s.timing := by
  obtain ⟨u, h⟩ := s.takeRefusal_touches i r; rw [h]; rfl
@[simp] theorem State.takeRefusal_frame : (s.takeRefusal i r).frame = s.frame := by
  obtain ⟨u, h⟩ := s.takeRefusal_touches i r; rw [h]; rfl
@[simp] theorem State.takeRefusal_choices : (s.takeRefusal i r).choices = s.choices := by
  obtain ⟨u, h⟩ := s.takeRefusal_touches i r; rw [h]; rfl
@[simp] theorem State.takeRefusal_pending : (s.takeRefusal i r).pending = s.pending := by
  obtain ⟨u, h⟩ := s.takeRefusal_touches i r; rw [h]; rfl

end

/-! ### The expiry of a deadline -/

/-- The expiry of a deadline touches the matchers, the log and the latches alone. -/
theorem State.expireDeadline_touches (i : MatcherIndex) :
    ∃ u : State, s.expireDeadline i =
      { s.logFrom u with matchers := u.matchers } := by
  refine ⟨s.expireDeadline i, ?_⟩
  unfold State.expireDeadline
  split
  · rfl
  · split
    · rw [State.appendEvent_touches]; rfl
    · rfl

section

variable (i : MatcherIndex)

@[simp] theorem State.expireDeadline_timeBase : (s.expireDeadline i).timeBase = s.timeBase := by
  obtain ⟨u, h⟩ := s.expireDeadline_touches i; rw [h]; rfl
@[simp] theorem State.expireDeadline_powerOn : (s.expireDeadline i).powerOn = s.powerOn := by
  obtain ⟨u, h⟩ := s.expireDeadline_touches i; rw [h]; rfl
@[simp] theorem State.expireDeadline_rstAsserted : (s.expireDeadline i).rstAsserted = s.rstAsserted := by
  obtain ⟨u, h⟩ := s.expireDeadline_touches i; rw [h]; rfl
@[simp] theorem State.expireDeadline_answers : (s.expireDeadline i).answers = s.answers := by
  obtain ⟨u, h⟩ := s.expireDeadline_touches i; rw [h]; rfl
@[simp] theorem State.expireDeadline_table : (s.expireDeadline i).table = s.table := by
  obtain ⟨u, h⟩ := s.expireDeadline_touches i; rw [h]; rfl
@[simp] theorem State.expireDeadline_deliveries : (s.expireDeadline i).deliveries = s.deliveries := by
  obtain ⟨u, h⟩ := s.expireDeadline_touches i; rw [h]; rfl
@[simp] theorem State.expireDeadline_mtags : (s.expireDeadline i).mtags = s.mtags := by
  obtain ⟨u, h⟩ := s.expireDeadline_touches i; rw [h]; rfl
@[simp] theorem State.expireDeadline_onOffer : (s.expireDeadline i).onOffer = s.onOffer := by
  obtain ⟨u, h⟩ := s.expireDeadline_touches i; rw [h]; rfl
@[simp] theorem State.expireDeadline_port : (s.expireDeadline i).port = s.port := by
  obtain ⟨u, h⟩ := s.expireDeadline_touches i; rw [h]; rfl
@[simp] theorem State.expireDeadline_regions : (s.expireDeadline i).regions = s.regions := by
  obtain ⟨u, h⟩ := s.expireDeadline_touches i; rw [h]; rfl
@[simp] theorem State.expireDeadline_groups : (s.expireDeadline i).groups = s.groups := by
  obtain ⟨u, h⟩ := s.expireDeadline_touches i; rw [h]; rfl
@[simp] theorem State.expireDeadline_pulse : (s.expireDeadline i).pulse = s.pulse := by
  obtain ⟨u, h⟩ := s.expireDeadline_touches i; rw [h]; rfl
@[simp] theorem State.expireDeadline_taking : (s.expireDeadline i).taking = s.taking := by
  obtain ⟨u, h⟩ := s.expireDeadline_touches i; rw [h]; rfl
@[simp] theorem State.expireDeadline_mask : (s.expireDeadline i).mask = s.mask := by
  obtain ⟨u, h⟩ := s.expireDeadline_touches i; rw [h]; rfl
@[simp] theorem State.expireDeadline_gap : (s.expireDeadline i).gap = s.gap := by
  obtain ⟨u, h⟩ := s.expireDeadline_touches i; rw [h]; rfl
@[simp] theorem State.expireDeadline_mode : (s.expireDeadline i).mode = s.mode := by
  obtain ⟨u, h⟩ := s.expireDeadline_touches i; rw [h]; rfl
@[simp] theorem State.expireDeadline_lock : (s.expireDeadline i).lock = s.lock := by
  obtain ⟨u, h⟩ := s.expireDeadline_touches i; rw [h]; rfl
@[simp] theorem State.expireDeadline_timing : (s.expireDeadline i).timing = s.timing := by
  obtain ⟨u, h⟩ := s.expireDeadline_touches i; rw [h]; rfl
@[simp] theorem State.expireDeadline_frame : (s.expireDeadline i).frame = s.frame := by
  obtain ⟨u, h⟩ := s.expireDeadline_touches i; rw [h]; rfl
@[simp] theorem State.expireDeadline_choices : (s.expireDeadline i).choices = s.choices := by
  obtain ⟨u, h⟩ := s.expireDeadline_touches i; rw [h]; rfl
@[simp] theorem State.expireDeadline_pending : (s.expireDeadline i).pending = s.pending := by
  obtain ⟨u, h⟩ := s.expireDeadline_touches i; rw [h]; rfl

end

/-! ### Requests -/

/-- One request touches the groups, the matchers, the pulse, the log and the latches alone. -/
theorem State.perform_touches (r : Request) :
    ∃ u : State, s.perform r =
      { s.logFrom u with groups := u.groups, matchers := u.matchers, pulse := u.pulse } := by
  refine ⟨s.perform r, ?_⟩
  cases r with
  | append e => simp only [State.perform]; rw [State.appendEvent_touches]; rfl
  | openGroup g d m => obtain ⟨u, h⟩ := s.openGroup_touches g d (some m); simp only [State.perform, h]; rfl
  | freezeGroup g m => obtain ⟨u, h⟩ := s.freezeGroup_touches g (some m); simp only [State.perform, h]; rfl
  | startPulse => rfl
  | refusalNotice m i => obtain ⟨u, h⟩ := s.takeRefusal_touches m i; simp only [State.perform, h]; rfl

/-- Several requests touch no more than one does. -/
theorem State.performList_touches (rs : List Request) :
    ∃ u : State, rs.foldl State.perform s =
      { s.logFrom u with groups := u.groups, matchers := u.matchers, pulse := u.pulse } := by
  induction rs generalizing s with
  | nil => exact ⟨s, rfl⟩
  | cons r rs ih =>
    obtain ⟨u, hu⟩ := s.perform_touches r
    obtain ⟨v, hv⟩ := ih (s.perform r)
    exact ⟨v, by rw [List.foldl_cons, hv, hu]; rfl⟩

/-! ### Requests of one event -/

/-- The requests of one event touch the groups, the matchers, the pulse, the log, the latches and the count of choices alone. -/
theorem State.performAll_touches (cs : List (List Request)) :
    ∃ u : State, s.performAll cs =
      { s.logFrom u with groups := u.groups, matchers := u.matchers, pulse := u.pulse, choices := u.choices } := by
  obtain ⟨u, h⟩ := State.performList_touches { s with choices := (interleave cs s.choices).2 } (interleave cs s.choices).1
  exact ⟨s.performAll cs, by simp only [State.performAll, h]; rfl⟩

section

variable (cs : List (List Request))

@[simp] theorem State.performAll_timeBase : (s.performAll cs).timeBase = s.timeBase := by
  obtain ⟨u, h⟩ := s.performAll_touches cs; rw [h]; rfl
@[simp] theorem State.performAll_powerOn : (s.performAll cs).powerOn = s.powerOn := by
  obtain ⟨u, h⟩ := s.performAll_touches cs; rw [h]; rfl
@[simp] theorem State.performAll_rstAsserted : (s.performAll cs).rstAsserted = s.rstAsserted := by
  obtain ⟨u, h⟩ := s.performAll_touches cs; rw [h]; rfl
@[simp] theorem State.performAll_answers : (s.performAll cs).answers = s.answers := by
  obtain ⟨u, h⟩ := s.performAll_touches cs; rw [h]; rfl
@[simp] theorem State.performAll_table : (s.performAll cs).table = s.table := by
  obtain ⟨u, h⟩ := s.performAll_touches cs; rw [h]; rfl
@[simp] theorem State.performAll_deliveries : (s.performAll cs).deliveries = s.deliveries := by
  obtain ⟨u, h⟩ := s.performAll_touches cs; rw [h]; rfl
@[simp] theorem State.performAll_mtags : (s.performAll cs).mtags = s.mtags := by
  obtain ⟨u, h⟩ := s.performAll_touches cs; rw [h]; rfl
@[simp] theorem State.performAll_onOffer : (s.performAll cs).onOffer = s.onOffer := by
  obtain ⟨u, h⟩ := s.performAll_touches cs; rw [h]; rfl
@[simp] theorem State.performAll_port : (s.performAll cs).port = s.port := by
  obtain ⟨u, h⟩ := s.performAll_touches cs; rw [h]; rfl
@[simp] theorem State.performAll_regions : (s.performAll cs).regions = s.regions := by
  obtain ⟨u, h⟩ := s.performAll_touches cs; rw [h]; rfl
@[simp] theorem State.performAll_taking : (s.performAll cs).taking = s.taking := by
  obtain ⟨u, h⟩ := s.performAll_touches cs; rw [h]; rfl
@[simp] theorem State.performAll_mask : (s.performAll cs).mask = s.mask := by
  obtain ⟨u, h⟩ := s.performAll_touches cs; rw [h]; rfl
@[simp] theorem State.performAll_gap : (s.performAll cs).gap = s.gap := by
  obtain ⟨u, h⟩ := s.performAll_touches cs; rw [h]; rfl
@[simp] theorem State.performAll_mode : (s.performAll cs).mode = s.mode := by
  obtain ⟨u, h⟩ := s.performAll_touches cs; rw [h]; rfl
@[simp] theorem State.performAll_lock : (s.performAll cs).lock = s.lock := by
  obtain ⟨u, h⟩ := s.performAll_touches cs; rw [h]; rfl
@[simp] theorem State.performAll_timing : (s.performAll cs).timing = s.timing := by
  obtain ⟨u, h⟩ := s.performAll_touches cs; rw [h]; rfl
@[simp] theorem State.performAll_frame : (s.performAll cs).frame = s.frame := by
  obtain ⟨u, h⟩ := s.performAll_touches cs; rw [h]; rfl
@[simp] theorem State.performAll_pending : (s.performAll cs).pending = s.pending := by
  obtain ⟨u, h⟩ := s.performAll_touches cs; rw [h]; rfl

end

/-- The moves of several matchers touch the matchers alone. -/
theorem State.moveMatchers_touches (rs : List (MatcherIndex × Matcher × Option Nat × Bool)) :
    ∃ u : State, rs.foldl (fun s r => s.setMatcher r.1 (some r.2.1)) s = { s with matchers := u.matchers } := by
  induction rs generalizing s with
  | nil => exact ⟨s, rfl⟩
  | cons r rs ih =>
    obtain ⟨v, hv⟩ := ih (s.setMatcher r.1 (some r.2.1))
    exact ⟨v, by rw [List.foldl_cons, hv]; rfl⟩

/-! ### A completion notice -/

/-- A completion notice touches the groups, the matchers, the pulse, the log, the latches and the count of choices alone. -/
theorem State.giveCompletion_touches (n : Notice) :
    ∃ u : State, s.giveCompletion n =
      { s.logFrom u with groups := u.groups, matchers := u.matchers, pulse := u.pulse, choices := u.choices } := by
  refine ⟨s.giveCompletion n, ?_⟩
  obtain ⟨v, hv⟩ := s.moveMatchers_touches (s.reactions n)
  unfold State.giveCompletion
  simp only [hv]
  split
  · obtain ⟨u, h⟩ := State.performAll_touches (State.latch .sequence { s with matchers := v.matchers })
      ((s.reactions n).map (fun r => completionRequests r.1 r.2.1 n r.2.2.1 r.2.2.2))
    rw [h]; rfl
  · obtain ⟨u, h⟩ := State.performAll_touches { s with matchers := v.matchers }
      ((s.reactions n).map (fun r => completionRequests r.1 r.2.1 n r.2.2.1 r.2.2.2))
    rw [h]; rfl

section

variable (n : Notice)

@[simp] theorem State.giveCompletion_timeBase : (s.giveCompletion n).timeBase = s.timeBase := by
  obtain ⟨u, h⟩ := s.giveCompletion_touches n; rw [h]; rfl
@[simp] theorem State.giveCompletion_powerOn : (s.giveCompletion n).powerOn = s.powerOn := by
  obtain ⟨u, h⟩ := s.giveCompletion_touches n; rw [h]; rfl
@[simp] theorem State.giveCompletion_rstAsserted : (s.giveCompletion n).rstAsserted = s.rstAsserted := by
  obtain ⟨u, h⟩ := s.giveCompletion_touches n; rw [h]; rfl
@[simp] theorem State.giveCompletion_answers : (s.giveCompletion n).answers = s.answers := by
  obtain ⟨u, h⟩ := s.giveCompletion_touches n; rw [h]; rfl
@[simp] theorem State.giveCompletion_table : (s.giveCompletion n).table = s.table := by
  obtain ⟨u, h⟩ := s.giveCompletion_touches n; rw [h]; rfl
@[simp] theorem State.giveCompletion_deliveries : (s.giveCompletion n).deliveries = s.deliveries := by
  obtain ⟨u, h⟩ := s.giveCompletion_touches n; rw [h]; rfl
@[simp] theorem State.giveCompletion_mtags : (s.giveCompletion n).mtags = s.mtags := by
  obtain ⟨u, h⟩ := s.giveCompletion_touches n; rw [h]; rfl
@[simp] theorem State.giveCompletion_onOffer : (s.giveCompletion n).onOffer = s.onOffer := by
  obtain ⟨u, h⟩ := s.giveCompletion_touches n; rw [h]; rfl
@[simp] theorem State.giveCompletion_port : (s.giveCompletion n).port = s.port := by
  obtain ⟨u, h⟩ := s.giveCompletion_touches n; rw [h]; rfl
@[simp] theorem State.giveCompletion_regions : (s.giveCompletion n).regions = s.regions := by
  obtain ⟨u, h⟩ := s.giveCompletion_touches n; rw [h]; rfl
@[simp] theorem State.giveCompletion_taking : (s.giveCompletion n).taking = s.taking := by
  obtain ⟨u, h⟩ := s.giveCompletion_touches n; rw [h]; rfl
@[simp] theorem State.giveCompletion_mask : (s.giveCompletion n).mask = s.mask := by
  obtain ⟨u, h⟩ := s.giveCompletion_touches n; rw [h]; rfl
@[simp] theorem State.giveCompletion_gap : (s.giveCompletion n).gap = s.gap := by
  obtain ⟨u, h⟩ := s.giveCompletion_touches n; rw [h]; rfl
@[simp] theorem State.giveCompletion_mode : (s.giveCompletion n).mode = s.mode := by
  obtain ⟨u, h⟩ := s.giveCompletion_touches n; rw [h]; rfl
@[simp] theorem State.giveCompletion_lock : (s.giveCompletion n).lock = s.lock := by
  obtain ⟨u, h⟩ := s.giveCompletion_touches n; rw [h]; rfl
@[simp] theorem State.giveCompletion_timing : (s.giveCompletion n).timing = s.timing := by
  obtain ⟨u, h⟩ := s.giveCompletion_touches n; rw [h]; rfl
@[simp] theorem State.giveCompletion_frame : (s.giveCompletion n).frame = s.frame := by
  obtain ⟨u, h⟩ := s.giveCompletion_touches n; rw [h]; rfl
@[simp] theorem State.giveCompletion_pending : (s.giveCompletion n).pending = s.pending := by
  obtain ⟨u, h⟩ := s.giveCompletion_touches n; rw [h]; rfl

end

/-! ### The arbiter -/

/-- A grant touches the table, the M-tags and the offer alone. -/
theorem State.grantTo_touches (t : Txn) (m : MTag) : s.grantTo t m = s.grantsFrom (s.grantTo t m) := by
  unfold State.grantTo
  split <;> rfl

/-- The arbiter makes one grant, to the oldest candidate and of the lowest FREE tag, or none (R68, R69). -/
theorem State.arbitrate_cases :
    (∃ t m, s.mayGrant = true ∧ s.oldestCandidate = some t ∧ s.lowestFreeTag = some m ∧ s.arbitrate = s.grantTo t m)
    ∨ ((s.mayGrant = false ∨ s.oldestCandidate = none ∨ s.lowestFreeTag = none) ∧ s.arbitrate = s) := by
  unfold State.arbitrate
  cases hg : s.mayGrant
  · exact .inr ⟨.inl rfl, by simp⟩
  · cases ht : s.lowestFreeTag
    · exact .inr ⟨.inr (.inr rfl), by simp⟩
    · cases hc : s.oldestCandidate
      · exact .inr ⟨.inr (.inl rfl), by simp⟩
      · exact .inl ⟨_, _, rfl, rfl, rfl, by simp⟩

/-- The arbiter touches the table, the M-tags and the offer alone. -/
theorem State.arbitrate_touches : s.arbitrate = s.grantsFrom s.arbitrate := by
  obtain ⟨t, m, -, -, -, h⟩ | ⟨-, h⟩ := s.arbitrate_cases <;> rw [h]
  · exact s.grantTo_touches t m
  · rfl

@[simp] theorem State.arbitrate_timeBase : s.arbitrate.timeBase = s.timeBase := by rw [s.arbitrate_touches]; rfl
@[simp] theorem State.arbitrate_powerOn : s.arbitrate.powerOn = s.powerOn := by rw [s.arbitrate_touches]; rfl
@[simp] theorem State.arbitrate_rstAsserted : s.arbitrate.rstAsserted = s.rstAsserted := by rw [s.arbitrate_touches]; rfl
@[simp] theorem State.arbitrate_answers : s.arbitrate.answers = s.answers := by rw [s.arbitrate_touches]; rfl
@[simp] theorem State.arbitrate_deliveries : s.arbitrate.deliveries = s.deliveries := by rw [s.arbitrate_touches]; rfl
@[simp] theorem State.arbitrate_port : s.arbitrate.port = s.port := by rw [s.arbitrate_touches]; rfl
@[simp] theorem State.arbitrate_regions : s.arbitrate.regions = s.regions := by rw [s.arbitrate_touches]; rfl
@[simp] theorem State.arbitrate_groups : s.arbitrate.groups = s.groups := by rw [s.arbitrate_touches]; rfl
@[simp] theorem State.arbitrate_matchers : s.arbitrate.matchers = s.matchers := by rw [s.arbitrate_touches]; rfl
@[simp] theorem State.arbitrate_pulse : s.arbitrate.pulse = s.pulse := by rw [s.arbitrate_touches]; rfl
@[simp] theorem State.arbitrate_records : s.arbitrate.records = s.records := by rw [s.arbitrate_touches]; rfl
@[simp] theorem State.arbitrate_nextSeq : s.arbitrate.nextSeq = s.nextSeq := by rw [s.arbitrate_touches]; rfl
@[simp] theorem State.arbitrate_lost : s.arbitrate.lost = s.lost := by rw [s.arbitrate_touches]; rfl
@[simp] theorem State.arbitrate_firstLoss : s.arbitrate.firstLoss = s.firstLoss := by rw [s.arbitrate_touches]; rfl
@[simp] theorem State.arbitrate_latestLoss : s.arbitrate.latestLoss = s.latestLoss := by rw [s.arbitrate_touches]; rfl
@[simp] theorem State.arbitrate_openUntil : s.arbitrate.openUntil = s.openUntil := by rw [s.arbitrate_touches]; rfl
@[simp] theorem State.arbitrate_taking : s.arbitrate.taking = s.taking := by rw [s.arbitrate_touches]; rfl
@[simp] theorem State.arbitrate_latches : s.arbitrate.latches = s.latches := by rw [s.arbitrate_touches]; rfl
@[simp] theorem State.arbitrate_mask : s.arbitrate.mask = s.mask := by rw [s.arbitrate_touches]; rfl
@[simp] theorem State.arbitrate_gap : s.arbitrate.gap = s.gap := by rw [s.arbitrate_touches]; rfl
@[simp] theorem State.arbitrate_mode : s.arbitrate.mode = s.mode := by rw [s.arbitrate_touches]; rfl
@[simp] theorem State.arbitrate_lock : s.arbitrate.lock = s.lock := by rw [s.arbitrate_touches]; rfl
@[simp] theorem State.arbitrate_timing : s.arbitrate.timing = s.timing := by rw [s.arbitrate_touches]; rfl
@[simp] theorem State.arbitrate_frame : s.arbitrate.frame = s.frame := by rw [s.arbitrate_touches]; rfl
@[simp] theorem State.arbitrate_choices : s.arbitrate.choices = s.choices := by rw [s.arbitrate_touches]; rfl
@[simp] theorem State.arbitrate_pending : s.arbitrate.pending = s.pending := by rw [s.arbitrate_touches]; rfl

/-! ### The freeing of an orphan -/

/-- The freeing of an orphan touches the table, the M-tags, the offer and the count of choices alone. -/
theorem State.promoteAndArbitrate_touches  :
    ∃ u : State, s.promoteAndArbitrate =
      { s.grantsFrom u with choices := u.choices } := by
  refine ⟨s.promoteAndArbitrate, ?_⟩
  unfold State.promoteAndArbitrate
  dsimp only
  split
  · split
    · split <;> (rw [State.grantTo_touches]; rfl)
    · rw [State.arbitrate_touches]; rfl
  · rw [State.arbitrate_touches]; rfl

@[simp] theorem State.promoteAndArbitrate_timeBase : (s.promoteAndArbitrate).timeBase = s.timeBase := by
  obtain ⟨u, h⟩ := s.promoteAndArbitrate_touches; rw [h]; rfl
@[simp] theorem State.promoteAndArbitrate_powerOn : (s.promoteAndArbitrate).powerOn = s.powerOn := by
  obtain ⟨u, h⟩ := s.promoteAndArbitrate_touches; rw [h]; rfl
@[simp] theorem State.promoteAndArbitrate_rstAsserted : (s.promoteAndArbitrate).rstAsserted = s.rstAsserted := by
  obtain ⟨u, h⟩ := s.promoteAndArbitrate_touches; rw [h]; rfl
@[simp] theorem State.promoteAndArbitrate_answers : (s.promoteAndArbitrate).answers = s.answers := by
  obtain ⟨u, h⟩ := s.promoteAndArbitrate_touches; rw [h]; rfl
@[simp] theorem State.promoteAndArbitrate_deliveries : (s.promoteAndArbitrate).deliveries = s.deliveries := by
  obtain ⟨u, h⟩ := s.promoteAndArbitrate_touches; rw [h]; rfl
@[simp] theorem State.promoteAndArbitrate_port : (s.promoteAndArbitrate).port = s.port := by
  obtain ⟨u, h⟩ := s.promoteAndArbitrate_touches; rw [h]; rfl
@[simp] theorem State.promoteAndArbitrate_regions : (s.promoteAndArbitrate).regions = s.regions := by
  obtain ⟨u, h⟩ := s.promoteAndArbitrate_touches; rw [h]; rfl
@[simp] theorem State.promoteAndArbitrate_groups : (s.promoteAndArbitrate).groups = s.groups := by
  obtain ⟨u, h⟩ := s.promoteAndArbitrate_touches; rw [h]; rfl
@[simp] theorem State.promoteAndArbitrate_matchers : (s.promoteAndArbitrate).matchers = s.matchers := by
  obtain ⟨u, h⟩ := s.promoteAndArbitrate_touches; rw [h]; rfl
@[simp] theorem State.promoteAndArbitrate_pulse : (s.promoteAndArbitrate).pulse = s.pulse := by
  obtain ⟨u, h⟩ := s.promoteAndArbitrate_touches; rw [h]; rfl
@[simp] theorem State.promoteAndArbitrate_records : (s.promoteAndArbitrate).records = s.records := by
  obtain ⟨u, h⟩ := s.promoteAndArbitrate_touches; rw [h]; rfl
@[simp] theorem State.promoteAndArbitrate_nextSeq : (s.promoteAndArbitrate).nextSeq = s.nextSeq := by
  obtain ⟨u, h⟩ := s.promoteAndArbitrate_touches; rw [h]; rfl
@[simp] theorem State.promoteAndArbitrate_lost : (s.promoteAndArbitrate).lost = s.lost := by
  obtain ⟨u, h⟩ := s.promoteAndArbitrate_touches; rw [h]; rfl
@[simp] theorem State.promoteAndArbitrate_firstLoss : (s.promoteAndArbitrate).firstLoss = s.firstLoss := by
  obtain ⟨u, h⟩ := s.promoteAndArbitrate_touches; rw [h]; rfl
@[simp] theorem State.promoteAndArbitrate_latestLoss : (s.promoteAndArbitrate).latestLoss = s.latestLoss := by
  obtain ⟨u, h⟩ := s.promoteAndArbitrate_touches; rw [h]; rfl
@[simp] theorem State.promoteAndArbitrate_openUntil : (s.promoteAndArbitrate).openUntil = s.openUntil := by
  obtain ⟨u, h⟩ := s.promoteAndArbitrate_touches; rw [h]; rfl
@[simp] theorem State.promoteAndArbitrate_taking : (s.promoteAndArbitrate).taking = s.taking := by
  obtain ⟨u, h⟩ := s.promoteAndArbitrate_touches; rw [h]; rfl
@[simp] theorem State.promoteAndArbitrate_latches : (s.promoteAndArbitrate).latches = s.latches := by
  obtain ⟨u, h⟩ := s.promoteAndArbitrate_touches; rw [h]; rfl
@[simp] theorem State.promoteAndArbitrate_mask : (s.promoteAndArbitrate).mask = s.mask := by
  obtain ⟨u, h⟩ := s.promoteAndArbitrate_touches; rw [h]; rfl
@[simp] theorem State.promoteAndArbitrate_gap : (s.promoteAndArbitrate).gap = s.gap := by
  obtain ⟨u, h⟩ := s.promoteAndArbitrate_touches; rw [h]; rfl
@[simp] theorem State.promoteAndArbitrate_mode : (s.promoteAndArbitrate).mode = s.mode := by
  obtain ⟨u, h⟩ := s.promoteAndArbitrate_touches; rw [h]; rfl
@[simp] theorem State.promoteAndArbitrate_lock : (s.promoteAndArbitrate).lock = s.lock := by
  obtain ⟨u, h⟩ := s.promoteAndArbitrate_touches; rw [h]; rfl
@[simp] theorem State.promoteAndArbitrate_timing : (s.promoteAndArbitrate).timing = s.timing := by
  obtain ⟨u, h⟩ := s.promoteAndArbitrate_touches; rw [h]; rfl
@[simp] theorem State.promoteAndArbitrate_frame : (s.promoteAndArbitrate).frame = s.frame := by
  obtain ⟨u, h⟩ := s.promoteAndArbitrate_touches; rw [h]; rfl
@[simp] theorem State.promoteAndArbitrate_pending : (s.promoteAndArbitrate).pending = s.pending := by
  obtain ⟨u, h⟩ := s.promoteAndArbitrate_touches; rw [h]; rfl

/-! ### Entry -/

/-- An entry touches the table, the M-tags and the offer alone. -/
theorem State.enter_touches (req : HostRequest) (c : Classification) (v : Bool) (w : Option WordAddr)
    (r : Option Reason) : s.enter req c v w r = s.grantsFrom (s.enter req c v w r) := by
  unfold State.enter
  rw [State.arbitrate_touches]; rfl

section

variable (req : HostRequest) (c : Classification) (v : Bool) (w : Option WordAddr) (r : Option Reason)

@[simp] theorem State.enter_timeBase : (s.enter req c v w r).timeBase = s.timeBase := by rw [s.enter_touches]; rfl
@[simp] theorem State.enter_powerOn : (s.enter req c v w r).powerOn = s.powerOn := by rw [s.enter_touches]; rfl
@[simp] theorem State.enter_rstAsserted : (s.enter req c v w r).rstAsserted = s.rstAsserted := by rw [s.enter_touches]; rfl
@[simp] theorem State.enter_answers : (s.enter req c v w r).answers = s.answers := by rw [s.enter_touches]; rfl
@[simp] theorem State.enter_deliveries : (s.enter req c v w r).deliveries = s.deliveries := by rw [s.enter_touches]; rfl
@[simp] theorem State.enter_port : (s.enter req c v w r).port = s.port := by rw [s.enter_touches]; rfl
@[simp] theorem State.enter_regions : (s.enter req c v w r).regions = s.regions := by rw [s.enter_touches]; rfl
@[simp] theorem State.enter_groups : (s.enter req c v w r).groups = s.groups := by rw [s.enter_touches]; rfl
@[simp] theorem State.enter_matchers : (s.enter req c v w r).matchers = s.matchers := by rw [s.enter_touches]; rfl
@[simp] theorem State.enter_pulse : (s.enter req c v w r).pulse = s.pulse := by rw [s.enter_touches]; rfl
@[simp] theorem State.enter_records : (s.enter req c v w r).records = s.records := by rw [s.enter_touches]; rfl
@[simp] theorem State.enter_nextSeq : (s.enter req c v w r).nextSeq = s.nextSeq := by rw [s.enter_touches]; rfl
@[simp] theorem State.enter_lost : (s.enter req c v w r).lost = s.lost := by rw [s.enter_touches]; rfl
@[simp] theorem State.enter_firstLoss : (s.enter req c v w r).firstLoss = s.firstLoss := by rw [s.enter_touches]; rfl
@[simp] theorem State.enter_latestLoss : (s.enter req c v w r).latestLoss = s.latestLoss := by rw [s.enter_touches]; rfl
@[simp] theorem State.enter_openUntil : (s.enter req c v w r).openUntil = s.openUntil := by rw [s.enter_touches]; rfl
@[simp] theorem State.enter_taking : (s.enter req c v w r).taking = s.taking := by rw [s.enter_touches]; rfl
@[simp] theorem State.enter_latches : (s.enter req c v w r).latches = s.latches := by rw [s.enter_touches]; rfl
@[simp] theorem State.enter_mask : (s.enter req c v w r).mask = s.mask := by rw [s.enter_touches]; rfl
@[simp] theorem State.enter_gap : (s.enter req c v w r).gap = s.gap := by rw [s.enter_touches]; rfl
@[simp] theorem State.enter_mode : (s.enter req c v w r).mode = s.mode := by rw [s.enter_touches]; rfl
@[simp] theorem State.enter_lock : (s.enter req c v w r).lock = s.lock := by rw [s.enter_touches]; rfl
@[simp] theorem State.enter_timing : (s.enter req c v w r).timing = s.timing := by rw [s.enter_touches]; rfl
@[simp] theorem State.enter_frame : (s.enter req c v w r).frame = s.frame := by rw [s.enter_touches]; rfl
@[simp] theorem State.enter_choices : (s.enter req c v w r).choices = s.choices := by rw [s.enter_touches]; rfl
@[simp] theorem State.enter_pending : (s.enter req c v w r).pending = s.pending := by rw [s.enter_touches]; rfl

end

end Sys2Proof.Machine
end

