-- ==== Sys2Proof/Laws/Order.lean ====
section
/-! SUPPORT. The order in which the requests of one event are taken: an interleaving is a permutation of all of them,
and what that gives for refusal notices and for completions. -/

namespace Sys2Proof.Machine

/-! ### Interleavings -/

theorem flatten_nonEmpty {α : Type} (chains : List (List α)) : (nonEmpty chains).flatten = chains.flatten := by
  unfold nonEmpty
  induction chains with
  | nil => rfl
  | cons c cs ih => cases c <;> simp [ih]

/-- The head of one list comes first, and the rest is a permutation of what is left. -/
theorem flatten_perm_head {α : Type} (chains : List (List α)) (i : Nat) (x : α) (rest : List α)
    (h : chains[i]? = some (x :: rest)) : (x :: (chains.set i rest).flatten).Perm chains.flatten := by
  induction chains generalizing i with
  | nil => simp at h
  | cons c cs ih =>
    cases i with
    | zero => simp at h; subst h; simp
    | succ i =>
      simp at h
      have := ih i h
      simp only [List.set_cons_succ, List.flatten_cons]
      exact List.perm_middle.symm.trans (this.append_left c)

theorem interleaveFrom_perm {α : Type} (fuel : Nat) (chains : List (List α)) (n : Nat) :
    (interleaveFrom fuel chains n).1.Perm chains.flatten := by
  induction fuel generalizing chains n with
  | zero => exact List.Perm.refl _
  | succ fuel ih =>
    rw [← flatten_nonEmpty chains]
    unfold interleaveFrom
    split
    · next h => simp [h]
    · next c h => simp [h]
    · next c d rest h =>
      rw [h]
      dsimp only
      unfold takeHead
      split
      · next x l hx => exact (ih _ _).cons x |>.trans (flatten_perm_head _ _ _ _ hx)
      · exact ih _ _

/-- Nothing is lost and nothing is made up: an interleaving is a permutation of all the requests. -/
theorem interleave_perm {α : Type} (chains : List (List α)) (n : Nat) :
    (interleave chains n).1.Perm chains.flatten := interleaveFrom_perm _ _ _

theorem interleaveFrom_sublist {α : Type} (fuel : Nat) (chains : List (List α)) (n : Nat) :
    ∀ own ∈ chains, own.Sublist (interleaveFrom fuel chains n).1 := by
  induction fuel generalizing chains n with
  | zero => exact fun own h => List.sublist_flatten_of_mem h
  | succ fuel ih =>
    intro own h
    cases own with
    | nil => exact List.nil_sublist _
    | cons y ys =>
      have live : (y :: ys) ∈ nonEmpty chains := by simpa [nonEmpty] using h
      unfold interleaveFrom
      split
      · next e => rw [e] at live; cases live
      · next c e => rw [e, List.mem_singleton] at live; rw [live]
      · next c d rest e =>
        rw [e] at live
        dsimp only
        unfold takeHead
        split
        · next x l hx =>
          obtain ⟨j, hj⟩ := List.mem_iff_getElem?.mp live
          generalize Config.choice n % (c :: d :: rest).length = i at hx ⊢
          by_cases hij : i = j
          · subst hij
            obtain ⟨rfl, rfl⟩ := List.cons.inj (Option.some.inj (hx.symm.trans hj))
            have inside := (List.getElem?_eq_some_iff.mp hx).1
            exact (ih _ _ _ (List.mem_iff_getElem?.mpr ⟨i, List.getElem?_set_self inside⟩)).cons_cons _
          · exact (ih _ _ _ (List.mem_iff_getElem?.mpr ⟨j, by rw [List.getElem?_set_ne hij, hj]⟩)).cons _
        · exact ih _ _ _ live

/-- An interleaving takes every request once, and each block's own in the block's order. -/
theorem interleave_takenInOrder {α : Type} (chains : List (List α)) (n : Nat) :
    TakenInOrder chains (interleave chains n).1 := ⟨interleave_perm chains n, interleaveFrom_sublist _ _ _⟩

/-- The requests that several blocks make at one event are performed in an order that keeps each block's own. -/
theorem State.performAll_takenInOrder (chains : List (List Request)) (s : State) :
    ∃ order n, TakenInOrder chains order ∧ s.performAll chains = order.foldl State.perform { s with choices := n } :=
  ⟨_, _, interleave_takenInOrder chains s.choices, rfl⟩

/-- One list alone is taken in its own order, and no choice is made. -/
theorem interleave_one {α : Type} (c : List α) (n : Nat) : interleave [c] n = (c, n) := by
  unfold interleave
  cases c with
  | nil => rfl
  | cons x xs => simp [interleaveFrom, nonEmpty]

/-! ### Append requests and the rest of the state -/

/-- Two states agree in all that an append request reads: the log, the latches, the time and the settings. -/
def SameLog (s t : State) : Prop :=
  t.logFrom s = t ∧ t.timeBase = s.timeBase ∧ t.timing = s.timing

/-- An append request reads nothing but the log, the latches, the time and the settings: on two states that agree in
these it does the same to the log and the latches, and nothing else. -/
theorem State.appendEvent_congr (e : Event) {s t : State} (h : SameLog s t) :
    t.appendEvent e = t.logFrom (s.appendEvent e) := by
  obtain ⟨h, ht, hs⟩ := h
  have hr : t.records = s.records := by rw [← h]; rfl
  have ho : t.openUntil = s.openUntil := by rw [← h]; rfl
  have hc : t.coalesces e = s.coalesces e := by simp only [State.coalesces, State.openRecord?, hr, ho]
  have hq : t.nextSeq = s.nextSeq := by rw [← h]; rfl
  have hl : t.lost = s.lost := by rw [← h]; rfl
  have hf : t.firstLoss = s.firstLoss := by rw [← h]; rfl
  have hm : t.latestLoss = s.latestLoss := by rw [← h]; rfl
  have ha : t.latches = s.latches := by rw [← h]; rfl
  unfold State.appendEvent
  rw [hc, hr, ht]
  split
  · simp only [State.coalesceNewest, State.logFrom, hr, ht, hs, hq, hl, hf, hm, ha]
  · split
    · by_cases hn : s.timing.threshold.toNat ≤ s.records.length + 1 <;>
        simp [State.pushRecord, State.latchLogAtThreshold, State.atThreshold, State.logFrom, State.latch, hn, hr, ht,
          hs, hq, hl, hf, hm, ha]
    · simp only [State.loseEvent, State.latch, State.logFrom, hr, ht, hq, hl, hf, ho, ha]

/-- A frame field or any other that the log does not read may change before an append request or after it. -/
theorem State.appendEvent_logFrom (e : Event) (s t : State) (h : SameLog s t) :
    SameLog (s.appendEvent e) (t.appendEvent e) := by
  rw [State.appendEvent_congr e h]
  exact ⟨rfl, by simpa using h.2.1, by simpa using h.2.2⟩

/-! ### Refusal notices -/

/-- The events that requests of the two kinds make, from the matchers as they stand: appends and broken sequences. -/
def lapses : List Request → Vector (Option Matcher) 4 → List Event
  | [], _ => []
  | .append e :: rs, ms => e :: lapses rs ms
  | .refusalNotice k r :: rs, ms =>
    match ms[k] with
    | none => lapses rs ms
    | some m =>
      if m.relevantRefusal r && m.progress != 0 then
        lapsedEvent k .broken (some r) m.progress :: lapses rs (ms.set k.val (some m.restart) k.isLt)
      else lapses rs ms
  | .openGroup _ _ _ :: rs, ms => lapses rs ms
  | .freezeGroup _ _ :: rs, ms => lapses rs ms
  | .startPulse :: rs, ms => lapses rs ms

/-- The matchers that requests of the two kinds leave. -/
def lapsed : List Request → Vector (Option Matcher) 4 → Vector (Option Matcher) 4
  | [], ms => ms
  | .append _ :: rs, ms => lapsed rs ms
  | .refusalNotice k r :: rs, ms =>
    match ms[k] with
    | none => lapsed rs ms
    | some m =>
      if m.relevantRefusal r && m.progress != 0 then lapsed rs (ms.set k.val (some m.restart) k.isLt)
      else lapsed rs ms
  | .openGroup _ _ _ :: rs, ms => lapsed rs ms
  | .freezeGroup _ _ :: rs, ms => lapsed rs ms
  | .startPulse :: rs, ms => lapsed rs ms

/-- A request that is an append or a refusal notice. -/
def Request.simple : Request → Bool
  | .append _ => true
  | .refusalNotice _ _ => true
  | .openGroup _ _ _ => false
  | .freezeGroup _ _ => false
  | .startPulse => false

/-- An append request does not read the matchers. -/
theorem State.appendEvent_setMatchers (e : Event) (s : State) (ms : Vector (Option Matcher) 4) :
    State.appendEvent e { s with matchers := ms } = { s.appendEvent e with matchers := ms } := by
  refine (State.appendEvent_congr e (s := s) (t := { s with matchers := ms }) ⟨rfl, rfl, rfl⟩).trans ?_
  conv_rhs => rw [s.appendEvent_touches e]
  rfl

theorem appends_setMatchers (es : List Event) (s : State) (ms : Vector (Option Matcher) 4) :
    es.foldl (fun u e => u.appendEvent e) { s with matchers := ms }
      = { es.foldl (fun u e => u.appendEvent e) s with matchers := ms } := by
  induction es generalizing s with
  | nil => rfl
  | cons e es ih =>
    rw [List.foldl_cons, State.appendEvent_setMatchers e s ms, ih, List.foldl_cons]

theorem appends_matchers (es : List Event) (s : State) :
    (es.foldl (fun u e => u.appendEvent e) s).matchers = s.matchers := by
  induction es generalizing s with
  | nil => rfl
  | cons e es ih => rw [List.foldl_cons, ih, State.appendEvent_matchers]

/-- Appends and refusal notices, one after another: the events are appended and the matchers restarted. -/
theorem perform_simple (rs : List Request) (h : ∀ r ∈ rs, r.simple = true) (s : State) :
    rs.foldl State.perform s =
      (lapses rs s.matchers).foldl (fun u e => u.appendEvent e) { s with matchers := lapsed rs s.matchers } := by
  induction rs generalizing s with
  | nil => rfl
  | cons r rs ih =>
    have ih := ih (fun r hr => h r (List.mem_cons_of_mem _ hr))
    cases r with
    | append e =>
      rw [List.foldl_cons, ih]
      simp only [State.perform, State.appendEvent_matchers, lapses, lapsed, List.foldl_cons]
      rw [State.appendEvent_setMatchers e s (lapsed rs s.matchers)]
    | refusalNotice k r =>
      rw [List.foldl_cons, ih]
      simp only [State.perform, State.takeRefusal, State.matcher, lapses, lapsed]
      cases s.matchers[k] with
      | none => rfl
      | some m =>
        dsimp only
        split
        · rw [State.appendEvent_matchers, List.foldl_cons]
          refine congrArg (fun u => List.foldl (fun u e => State.appendEvent e u) u _) ?_
          rw [← State.appendEvent_setMatchers]
          rfl
        · rfl
    | openGroup g d m => simp [Request.simple] at h
    | freezeGroup g m => simp [Request.simple] at h
    | startPulse => simp [Request.simple] at h

/-- The events that the append requests of a list carry. -/
def appended : List Request → List Event
  | [] => []
  | .append e :: rs => e :: appended rs
  | .refusalNotice _ _ :: rs => appended rs
  | .openGroup _ _ _ :: rs => appended rs
  | .freezeGroup _ _ :: rs => appended rs
  | .startPulse :: rs => appended rs

/-- The request is a refusal notice for the matcher, relevant to it. -/
def Request.breaks (k : MatcherIndex) (m : Matcher) : Request → Bool
  | .refusalNotice j r => j == k && m.relevantRefusal r
  | .append _ => false
  | .openGroup _ _ _ => false
  | .freezeGroup _ _ => false
  | .startPulse => false

/-- The lapse of one matcher, if the list breaks its sequence; `first` names the region of the notice that does. -/
def lapseOf (rs : List Request) (ms : Vector (Option Matcher) 4) (first : MatcherIndex → RegionIndex)
    (k : MatcherIndex) : Option Event :=
  (ms[k]).bind (fun m =>
    if m.progress ≠ 0 ∧ rs.any (Request.breaks k m) = true then
      some (lapsedEvent k .broken (some (first k)) m.progress)
    else none)

/-- `first` names notices of the list. -/
def NamesNotices (rs : List Request) (ms : Vector (Option Matcher) 4) (first : MatcherIndex → RegionIndex) : Prop :=
  ∀ k m, ms[k] = some m → m.progress ≠ 0 → rs.any (Request.breaks k m) = true →
    Request.refusalNotice k (first k) ∈ rs ∧ m.relevantRefusal (first k) = true

theorem filterMap_change {α β : Type} (l : List α) (k : α) (f g : α → Option β) (e : β) (hd : l.Nodup) (hk : k ∈ l)
    (hf : f k = some e) (hg : g k = none) (h : ∀ j, j ≠ k → f j = g j) :
    (e :: l.filterMap g).Perm (l.filterMap f) := by
  induction l with
  | nil => simp at hk
  | cons a l ih =>
    rw [List.nodup_cons] at hd
    by_cases ha : a = k
    · subst ha
      rw [List.filterMap_cons_none hg, List.filterMap_cons_some hf]
      rw [List.filterMap_congr (fun j hj => h j (fun hja => hd.1 (hja ▸ hj)))]
    · have hk : k ∈ l := (List.mem_cons.mp hk).resolve_left (Ne.symm ha)
      rw [List.filterMap_cons, List.filterMap_cons, h a ha]
      cases g a with
      | none => exact ih hd.2 hk
      | some b => exact (List.Perm.swap b e _).trans ((ih hd.2 hk).cons b)

/-- The events of appends and refusal notices: the appends', and one for each sequence broken. -/
theorem lapses_perm (rs : List Request) (h : ∀ r ∈ rs, r.simple = true) (ms : Vector (Option Matcher) 4) :
    ∃ first, NamesNotices rs ms first
      ∧ (lapses rs ms).Perm (appended rs ++ (List.finRange 4).filterMap (lapseOf rs ms first)) := by
  induction rs generalizing ms with
  | nil => exact ⟨fun _ => 0, by simp [NamesNotices], by simp [lapses, appended, lapseOf]⟩
  | cons r rs ih =>
    have ih := ih (fun r hr => h r (List.mem_cons_of_mem _ hr))
    cases r with
    | append e =>
      obtain ⟨first, hn, hp⟩ := ih ms
      refine ⟨first, ?_, ?_⟩
      · intro k m hk hm hb
        have := hn k m hk hm (by simpa [Request.breaks] using hb)
        exact ⟨List.mem_cons_of_mem _ this.1, this.2⟩
      · have : lapseOf (.append e :: rs) ms first = lapseOf rs ms first := by
          funext k; simp [lapseOf, Request.breaks]
        rw [this]
        exact hp.cons e
    | refusalNotice k r =>
      by_cases hq : ∃ m, ms[k] = some m ∧ m.relevantRefusal r = true ∧ m.progress ≠ 0
      · obtain ⟨m, hk, hr, hm⟩ := hq
        obtain ⟨first, hn, hp⟩ := ih (ms.set k.val (some m.restart) k.isLt)
        have hget : ∀ j : MatcherIndex, j ≠ k → (ms.set k.val (some m.restart) k.isLt)[j] = ms[j] := by
          intro j hj
          simp [Ne.symm (Fin.val_ne_of_ne hj)]
        refine ⟨Function.update first k r, ?_, ?_⟩
        · intro j m' hj hm' hb
          by_cases hjk : j = k
          · subst hjk
            rw [hk] at hj
            cases hj
            simp [hr]
          · rw [Function.update_of_ne hjk]
            have := hn j m' (by rw [hget j hjk, hj]) hm'
              (by simpa [Request.breaks, Ne.symm hjk] using hb)
            exact ⟨List.mem_cons_of_mem _ this.1, this.2⟩
        · have hl : lapses (.refusalNotice k r :: rs) ms
              = lapsedEvent k .broken (some r) m.progress :: lapses rs (ms.set k.val (some m.restart) k.isLt) := by
            simp [lapses, hk, hr, hm]
          rw [hl]
          refine (hp.cons _).trans (List.perm_middle.symm.trans (List.Perm.append_left _ ?_))
          refine filterMap_change _ k _ _ _ (List.nodup_finRange 4) (List.mem_finRange k) ?_ ?_ ?_
          · simp [lapseOf, hk, hm, hr, Request.breaks]
          · simp [lapseOf, Matcher.restart]
          · intro j hj
            simp only [lapseOf, hget j hj, Function.update_of_ne hj]
            congr 1
            funext m'
            simp [Request.breaks, Ne.symm hj]
      · obtain ⟨first, hn, hp⟩ := ih ms
        have hany : ∀ j m', ms[j] = some m' → m'.progress ≠ 0 →
            (Request.refusalNotice k r :: rs).any (Request.breaks j m') = rs.any (Request.breaks j m') := by
          intro j m' hj hm'
          by_cases hjk : j = k
          · subst hjk
            have : m'.relevantRefusal r = false := by
              by_contra hc
              exact hq ⟨m', hj, by simpa using hc, hm'⟩
            simp [Request.breaks, this]
          · simp [Request.breaks, Ne.symm hjk]
        refine ⟨first, ?_, ?_⟩
        · intro j m' hj hm' hb
          rw [hany j m' hj hm'] at hb
          have := hn j m' hj hm' hb
          exact ⟨List.mem_cons_of_mem _ this.1, this.2⟩
        · have hl : lapses (.refusalNotice k r :: rs) ms = lapses rs ms := by
            simp only [lapses]
            split
            · rfl
            · next m hk =>
              split
              · next hc =>
                simp only [Bool.and_eq_true, bne_iff_ne] at hc
                exact absurd ⟨m, hk, hc⟩ hq
              · rfl
          have hf : lapseOf (.refusalNotice k r :: rs) ms first = lapseOf rs ms first := by
            funext j
            unfold lapseOf
            cases hj : ms[j] with
            | none => rfl
            | some m' =>
              simp only [Option.bind_some]
              by_cases hm' : m'.progress = 0
              · simp [hm']
              · rw [hany j m' hj hm']
          rw [hl, hf]
          exact hp
    | openGroup g d m => simp [Request.simple] at h
    | freezeGroup g m => simp [Request.simple] at h
    | startPulse => simp [Request.simple] at h

/-- The matchers that appends and refusal notices leave. -/
theorem lapsed_get (rs : List Request) (h : ∀ r ∈ rs, r.simple = true) (ms : Vector (Option Matcher) 4)
    (k : MatcherIndex) :
    (lapsed rs ms)[k] = (ms[k]).map (fun m =>
      if m.progress ≠ 0 ∧ rs.any (Request.breaks k m) = true then m.restart else m) := by
  induction rs generalizing ms with
  | nil => simp [lapsed]
  | cons r rs ih =>
    have ih := ih (fun r hr => h r (List.mem_cons_of_mem _ hr))
    cases r with
    | append e => simp [lapsed, ih, Request.breaks]
    | refusalNotice j r =>
      by_cases hq : ∃ m, ms[j] = some m ∧ (m.relevantRefusal r && m.progress != 0) = true
      · obtain ⟨m, hj, hc⟩ := hq
        have hl : lapsed (.refusalNotice j r :: rs) ms = lapsed rs (ms.set j.val (some m.restart) j.isLt) := by
          simp only [lapsed, hj, hc, if_true]
        rw [hl, ih]
        by_cases hjk : j = k
        · subst hjk
          simp only [Bool.and_eq_true, bne_iff_ne] at hc
          rw [hj]
          simp [Matcher.restart, Request.breaks, hc]
        · simp [Request.breaks, hjk, Fin.val_ne_of_ne hjk]
      · have hl : lapsed (.refusalNotice j r :: rs) ms = lapsed rs ms := by
          simp only [lapsed]
          split
          · rfl
          · next m hj => rw [if_neg (fun hc => hq ⟨m, hj, hc⟩)]
        rw [hl, ih]
        by_cases hjk : j = k
        · subst hjk
          cases hj : ms[j] with
          | none => rfl
          | some m =>
            have hc : ¬ (m.relevantRefusal r && m.progress != 0) = true := fun hc => hq ⟨m, hj, hc⟩
            simp only [Bool.and_eq_true, bne_iff_ne, not_and, not_not] at hc
            by_cases hr : m.relevantRefusal r = true
            · simp [hc hr]
            · simp [Request.breaks, hr]
        · simp [Request.breaks, hjk]
    | openGroup g d m => simp [Request.simple] at h
    | freezeGroup g m => simp [Request.simple] at h
    | startPulse => simp [Request.simple] at h

/-- The refusal notices of one event, with the append requests of the block that gives them: every sequence in progress
that a notice is relevant to is broken, and the log takes all the events in some order (R124, R137). -/
theorem State.performAll_breaks (s : State) (own : List Event) (regions : List RegionIndex)
    (chains : List (List Request)) (hc : chains.flatten = own.map Request.append ++ (s.refusalChains regions).flatten) :
    BreaksSequences regions own s (s.performAll chains) := by
  have hperm := interleave_perm chains s.choices
  set rs := (interleave chains s.choices).1 with hrs
  have hmem : ∀ x, x ∈ rs ↔ x ∈ own.map Request.append ∨ x ∈ (s.refusalChains regions).flatten := by
    intro x; rw [hperm.mem_iff, hc, List.mem_append]
  have hnotice : ∀ x, x ∈ (s.refusalChains regions).flatten ↔ ∃ k m r, x = .refusalNotice k r ∧ s.matcher k = some m
      ∧ m.progress ≠ 0 ∧ r ∈ regions ∧ m.relevantRefusal r = true := by
    intro x
    simp only [State.refusalChains, List.mem_flatten, List.mem_flatMap, List.mem_finRange, true_and]
    constructor
    · rintro ⟨l, ⟨k, hl⟩, hx⟩
      split at hl
      · simp at hl
      · next m hk =>
        split at hl
        · simp at hl
        · next hm =>
          simp only [List.mem_map, List.mem_filter] at hl
          obtain ⟨r, hr, rfl⟩ := hl
          exact ⟨k, m, r, by simpa using hx, hk, hm, hr⟩
    · rintro ⟨k, m, r, rfl, hk, hm, hr⟩
      refine ⟨[.refusalNotice k r], ⟨k, ?_⟩, by simp⟩
      simp only [hk, hm, if_false, List.mem_map, List.mem_filter]
      exact ⟨r, hr, rfl⟩
  have hsimple : ∀ r ∈ rs, r.simple = true := by
    intro x hx
    obtain hx | hx := (hmem x).mp hx
    · obtain ⟨e, -, rfl⟩ := List.mem_map.mp hx
      rfl
    · obtain ⟨k, m, r, rfl, -⟩ := (hnotice x).mp hx
      rfl
  have hany : ∀ k m, s.matcher k = some m → m.progress ≠ 0 →
      rs.any (Request.breaks k m) = regions.any m.relevantRefusal := by
    intro k m hk hm
    rw [Bool.eq_iff_iff, List.any_eq_true, List.any_eq_true]
    constructor
    · rintro ⟨x, hx, hb⟩
      obtain hx | hx := (hmem x).mp hx
      · obtain ⟨e, -, rfl⟩ := List.mem_map.mp hx
        simp [Request.breaks] at hb
      · obtain ⟨k', m', r, rfl, hk', -, hr, -⟩ := (hnotice x).mp hx
        simp only [Request.breaks, Bool.and_eq_true, beq_iff_eq] at hb
        exact ⟨r, hr, hb.2⟩
    · rintro ⟨r, hr, hb⟩
      exact ⟨.refusalNotice k r, (hmem _).mpr (.inr ((hnotice _).mpr ⟨k, m, r, rfl, hk, hm, hr, hb⟩)),
        by simp [Request.breaks, hb]⟩
  have happ : (appended rs).Perm own := by
    have h := (hperm.trans (List.Perm.of_eq hc)).filterMap
      (fun x : Request => match x with
        | .append e => some e
        | .refusalNotice _ _ => none
        | .openGroup _ _ _ => none
        | .freezeGroup _ _ => none
        | .startPulse => none)
    have ha : ∀ l : List Request, l.filterMap (fun x : Request => match x with
        | .append e => some e
        | .refusalNotice _ _ => none
        | .openGroup _ _ _ => none
        | .freezeGroup _ _ => none
        | .startPulse => none) = appended l := by
      intro l
      induction l with
      | nil => rfl
      | cons x l ih => cases x <;> simp [appended, ih]
    rw [ha, List.filterMap_append, ha, ha] at h
    have hown : appended (own.map Request.append) = own := by
      clear hc hmem h
      induction own with
      | nil => rfl
      | cons e l ih => simp [appended, ih]
    have hnone : appended (s.refusalChains regions).flatten = [] := by
      rw [← ha, List.filterMap_eq_nil_iff]
      intro x hx
      obtain ⟨k, m, r, rfl, -⟩ := (hnotice x).mp hx
      rfl
    rwa [hown, hnone, List.append_nil] at h
  obtain ⟨first, hn, hp⟩ := lapses_perm rs hsimple s.matchers
  refine ⟨first, lapses rs s.matchers, (interleave chains s.choices).2, ?_, ?_, ?_⟩
  · intro k m hk hm hr
    obtain ⟨h, hb⟩ := hn k m hk hm (by rw [hany k m hk hm, hr])
    obtain h | h := (hmem _).mp h
    · simp at h
    · obtain ⟨k', m', r, he, -, -, hr, -⟩ := (hnotice _).mp h
      simp only [Request.refusalNotice.injEq] at he
      exact ⟨he.2 ▸ hr, hb⟩
  · refine hp.trans (happ.append (List.Perm.of_eq ?_))
    unfold State.brokenEvents
    refine List.filterMap_congr (fun k _ => ?_)
    unfold lapseOf
    change (s.matcher k).bind _ = _
    cases hk : s.matcher k with
    | none => rfl
    | some m =>
      simp only [Option.bind_some]
      by_cases hm : m.progress = 0
      · simp [hm]
      · rw [hany k m hk hm]; rfl
  · have hmatch : lapsed rs s.matchers = matchersAfter regions s.matchers := by
      refine Vector.ext (fun k hk => ?_)
      have h := lapsed_get rs hsimple s.matchers ⟨k, hk⟩
      simp only [Fin.getElem_fin] at h
      rw [h]
      simp only [matchersAfter, Vector.getElem_map]
      cases hm : s.matchers[k] with
      | none => rfl
      | some m =>
        simp only [Option.map_some, Matcher.afterRefusals]
        by_cases h0 : m.progress = 0
        · simp [h0]
        · rw [hany ⟨k, hk⟩ m hm h0]
    rw [State.performAll, ← hmatch]
    exact perform_simple rs hsimple { s with choices := (interleave chains s.choices).2 }

end Sys2Proof.Machine
end

