-- ==== Sys2Proof/WellFormed.lean ====
section
/-! DEFINITION. Well-formed commands: the one operand whose values are not all the row's own is the code of
BAD_COMMAND, which the spec says is none of the codes of Table 10-3 (R159). -/

namespace Sys2Proof

/-- A term of `Instr` that stands for a step of its row. -/
def Instr.wellFormed : Instr → Bool
  | .badCommand code => (Command.ofCode? code).isNone
  | .arrival _ | .answerTaken | .delivery | .mportRequestTaken | .mportResponseTaken _
  | .verifyLimitExpiry _ | .forwardLimitExpiry _ | .mportResetEnd
  | .readStatus | .setMode _ | .lockConfig | .setTiming _ | .fetchTiming
  | .loadRegion _ _ | .fetchRegion _ | .dropRegion _
  | .loadSequence _ _ | .fetchSequence _ | .dropSequence _
  | .openWindow _ _ | .closeWindow _ | .freezeGroup _
  | .takeEvent | .takeEventRemoval | .ackAttn _ | .setAttnMask _ | .resetMport
  | .frameDeselect | .windowExpiry _ | .deadlineExpiry _ | .pulseEnd | .repulseGapEnd | .coalescingClose
  | .powerOnReset | .lineResetAssert | .lineResetRelease
  | .selectPeriodBegin | .slinkByteTaken _ | .powerOnResetEnd => true

end Sys2Proof
end

