-- ==== Sys2Proof/Tests/Slice0.lean ====
section
/-! SUPPORT. Tests: the well-formedness smoke test, single steps against the worked examples and tables of spec/, and for
each statement with hypotheses a witness that meets them. -/

namespace Sys2Proof.Tests

open Sys2Proof.Machine

/-! ### Sample states -/

/-- The next state of a command. -/
def run (c : Instr) (s : State) : State :=
  match exec c s with
  | .next t => t
  | .fault _ => s
  | .refused _ => s

/-- A region of one word at word address 1, width 32, unsigned, every size but those named, without a group. -/
def sample : Region where
  base := 4
  count := 1
  width := .w32
  signed := false
  natural := true
  allowByte := false
  allowHalf := true
  allowWord := true
  readAction := .pass
  fill := 0xAABBCCDD
  violation := .error
  writeNote := false
  primary := .frozen
  group := none
  alternate := none

/-- Entry 2 of the example in 1.12. -/
def entry2 : Region where
  base := 0x00040100
  count := 64
  width := .w16
  signed := true
  natural := true
  allowByte := false
  allowHalf := true
  allowWord := true
  readAction := .pass
  fill := 0
  violation := .error
  writeNote := false
  primary := .bounded 0xFFFFF830 0x000007D0
  group := some 1
  alternate := some .free

/-- The image of entry 2 in 10.7. -/
def image2 : Vector Byte 32 :=
  #v[0x00, 0x01, 0x04, 0x00, 0x40, 0x00, 0x00, 0x6D, 0xB4, 0x02, 0x00, 0x00, 0x30, 0xF8, 0xFF, 0xFF,
     0xD0, 0x07, 0x00, 0x00, 0, 0, 0, 0, 0, 0, 0, 0, 0, 0, 0, 0]

/-- A unit in ENFORCE mode with one entry at index 0. -/
def guarding (r : Region) : State :=
  { State.reset with mode := .enforce, regions := (Vector.replicate 32 none).set 0 (some r) }

/-- A request to word 1. -/
def req (kind : AccessKind) (lanes : Lanes) : HostRequest := ⟨2, kind, 1, lanes, 7⟩

/-- A record of word 1. -/
def record (kind : AccessKind) (state : TxnState) (c : Classification) (verify slot : Bool) (m : Option MTag) : Txn where
  htag := 2
  kind := kind
  word := 1
  lanes := 0b1111
  data := 7
  classification := c
  needsVerify := verify
  touched := [1]
  companion := none
  state := state
  holdSlot := slot
  mtag := m
  verifyWord := none
  passNote := none
  response := none

/-- A snapshot. -/
def snap (policy : Policy) (violation : ViolationAction) (note : Bool) : Snapshot :=
  ⟨0, .entry policy, .w32, false, violation, note⟩

/-- A tag that serves the record, taken at time 0 with a limit of 5. -/
def serving (p : Purpose) : ActiveTag := ⟨p, 1, 2, some (0, 5)⟩

/-- One record whose request memory has taken, at the time its limit is reached. -/
def inFlight (p : Purpose) (x : Txn) : State :=
  { State.reset with
    timeBase := 5, table := [x], mtags := (Vector.replicate 8 TagEntry.free).set 0 (.active (serving p)) }

/-- A write under verification. -/
def verifying (policy : Policy) (v : ViolationAction) (note : Bool) : State :=
  inFlight .verify (record .write .verifying (.watchedWrite (snap policy v note)) true true (some 0))

/-- A two-step sequence on region 0 with a gap of 1 ms. -/
def sequence (a : SeqAction) : SeqDef :=
  ⟨[⟨.write, 0, 0xFF, 7⟩, ⟨.read, 0, 0, 0⟩], 1, a⟩

/-- A unit with one matcher. -/
def watching (m : Matcher) : State := { State.reset with matchers := (Vector.replicate 4 none).set 0 (some m) }

/-- A log record of number 0. -/
def logged (e : Event) : Record := ⟨0, 0, 0, 1, e⟩

theorem up : LinkUp State.reset := ⟨rfl, rfl⟩

theorem accepted (kind : AccessKind) (r : Region) : Accepted (req kind 0b1111) (guarding r) :=
  ⟨⟨rfl, rfl⟩, by show (0 : Nat) < 16; decide, by show legalLanes 0b1111 = true; decide, by intro t ht; cases ht⟩

/-! ### Well-formedness -/

theorem test_wellFormed_refuses_known_code : Instr.wellFormed (.badCommand 0x10) = false := by decide

theorem test_wellFormed_unknown_codes :
    Instr.wellFormed (.badCommand 0x00) = true ∧ Instr.wellFormed (.badCommand 0xFF) = true := by decide

/-! ### Tables and examples of spec/ -/

/-- Table 10-3. -/
theorem test_command_table : Command.all.map Command.code =
    [0x10, 0x11, 0x12, 0x13, 0x14, 0x20, 0x21, 0x22, 0x30, 0x31, 0x32, 0x40, 0x41, 0x42, 0x50, 0x51, 0x52, 0x60] := by
  decide

/-- Table 1-2: the half on lanes 1 and 2. -/
theorem test_unaligned_half_touches : touchedElements .w16 0b0110 = [0, 1] ∧ touchesPartial .w16 0b0110 = true
    ∧ touchedElements .w8 0b0110 = [1, 2] ∧ touchesPartial .w8 0b0110 = false
    ∧ touchesPartial .w16 0b0011 = false ∧ touchesPartial .w32 0b0011 = true := by decide

/-- R46: from FAh to 04h is a step of 10 under either signedness. -/
theorem test_step_of_ten : stepOf .w8 250 4 = 10 ∧ stepOf .w8 (-6) 4 = 10 := by decide

/-- Table 3-3, rows 5 and 9. -/
theorem test_wraps : steppedElement .w8 false 1 16 false 250 4 0 = some .stepWrap
    ∧ steppedElement .w8 false 1 16 true 250 4 0 = none ∧ steppedElement .w8 true 1 16 false 127 128 0 = some .stepWrap := by
  decide

/-- 3.12: the lowest failing element gives the reason, and untouched elements are not judged. -/
theorem test_four_counters :
    judge ⟨0, .entry (.stepped 1 16 false), .w8, false, .error, false⟩ 0b1111 0x0B000566 0x0AFF0564 = .refuse .stepOut
    ∧ judge ⟨0, .entry (.stepped 1 16 false), .w8, false, .error, false⟩ 0b1111 0x0B000666 0x0AFF0564
        = .refuse .stepWrap
    ∧ judge ⟨0, .entry (.stepped 1 16 false), .w8, false, .error, false⟩ 0b0011 0x00000666 0x0AFF0564 = .pass := by
  decide

/-- R10 and R43: FREE, FROZEN and the group-frozen policy (O15). -/
theorem test_policies_judged_at_arrival :
    arrivalVerdict (snap .free .quiet false) 0b0001 7 = some .pass
    ∧ arrivalVerdict (snap .frozen .quiet false) 0b0001 7 = some (.refuse .frozen)
    ∧ arrivalVerdict { snap .free .quiet false with policy := .groupFrozen } 0b0001 7 = some (.refuse .groupFrozen) := by
  decide

/-- 3.13: partial elements are merged with the verify word. -/
theorem test_partial_bounded :
    judge ⟨0, .entry (.bounded 0xFFFFF830 0x7D0), .w16, true, .quiet, false⟩ 0b0110 0x00008000 0x000007D0
      = .refuse .outOfRange
    ∧ judge ⟨0, .entry (.bounded 0xFFFFF830 0x7D0), .w16, true, .quiet, false⟩ 0b0110 0x0010F800 0x000007D0 = .pass := by
  decide

/-- 10.7: the region image. -/
theorem test_region_image : Region.decode? image2.toList = some entry2 ∧ entry2.encode = image2.toList := by decide

/-- Tables 1-5 and 7-3 at their boundaries: the last word of the space is legal and one word more is not; an entry without
a size, a bound one past the range, an alternate policy without a group, a window of no duration. -/
theorem test_refused_images :
    Region.legal { entry2 with base := 0xFFFFFFFC, count := 1 } = true
    ∧ Region.legal { entry2 with base := 0xFFFFFFFC, count := 2 } = false
    ∧ Region.legal { sample with allowHalf := false, allowWord := false } = false
    ∧ Region.legal { entry2 with primary := .bounded 0 0x7FFF } = true
    ∧ Region.legal { entry2 with primary := .bounded 0 0x8000 } = false
    ∧ Region.legal { entry2 with group := none } = false
    ∧ (sequence (.openWindow 0 1)).legal = true ∧ (sequence (.openWindow 0 0)).legal = false := by decide

/-- 10.7: the record image of OVERFLOW 42. -/
theorem test_record_image :
    Record.encode ⟨42, 1800, 2050, 1, { kind := .overflow, count := some 2 }⟩
      = [0x2A, 0x00, 0x15, 0x00, 0x08, 0x07, 0x00, 0x00, 0x02, 0x08, 0x00, 0x00, 0x01, 0x80, 0, 0, 0, 0, 0x02, 0x00,
         0, 0, 0, 0, 0, 0, 0, 0, 0, 0, 0, 0] := by decide

/-- 10.7: LOAD_REGION 2 takes effect; under the lock it is refused. -/
theorem test_load_region : (run (.loadRegion 2 image2) State.reset).region 2 = some entry2
    ∧ (run (.loadRegion 2 image2) { State.reset with lock := true }).frame
        = .output .loadRegion .turnaround .locked [] := by decide

/-- 1.12: a +3,000 half write to entry 2 is refused at the arrival, and passes while the window is open. -/
theorem test_bounded_arrival :
    (run (.arrival ⟨0, .write, 0x10049, 0b0011, 0xBB8⟩) (guarding entry2)).answers = [⟨0, .refused, 0⟩]
    ∧ ((run (.arrival ⟨0, .write, 0x10049, 0b0011, 0xBB8⟩)
        { guarding entry2 with groups := (Vector.replicate 4 Group.closed).set 1 (.opened 9) }).table.map (·.state))
        = [.issued] := by decide

/-- 11.2: the verify read of the counter passes and its forward is granted at the same event. -/
theorem test_verify_passes :
    ((run (.mportResponseTaken ⟨0, .okay, 6⟩) (verifying (.stepped 1 16 false) .quiet false)).table.map (·.state))
      = [.issued] := by decide

/-- 11.2: a step of 252 is refused STEP_OUT and answered OKAY under QUIET. -/
theorem test_verify_refuses :
    ((run (.mportResponseTaken ⟨0, .okay, 11⟩) (verifying (.stepped 1 16 false) .quiet false)).table.map (·.response))
      = [some (.okay, 0)] := by decide

/-- 11.6: an expired forward is answered FAULT and orphans its tag. -/
theorem test_forward_timeout :
    let t := run (.forwardLimitExpiry 0) (inFlight .forwardWrite (record .write .issued .unwatched false false (some 0)))
    t.table.map (·.response) = [some (.fault, 0)] ∧ t.orphanedTags = 1 ∧ t.activeTags = 0
      ∧ t.records.map (·.event.kind) = [.forwardTimeout] := by decide

/-- 11.6: RESET_MPORT runs for 8 µs, and a second one is BUSY. -/
theorem test_reset_mport :
    (run .resetMport { State.reset with timeBase := 3000 }).port = .resetting 3008 0
    ∧ (run .resetMport { State.reset with port := .resetting 3008 0 }).frame
        = .output .resetMport .turnaround .busy [] := by decide

/-- 9.7: an acknowledgement in REPULSE mode latches LOG again and starts the gap. -/
theorem test_ack_repulse :
    let t := run (.ackAttn 1)
      { State.reset with timeBase := 150, timing := { Timing.reset with attnMode := .repulse },
                         records := [logged { kind := .lineReset }], latches := ⟨true, false, false, true⟩,
                         mask := ⟨true, false, false, true⟩ }
    t.gap = some 166 ∧ t.latches = ⟨true, false, false, true⟩ ∧ t.attnAsserted = false := by decide

/-- Chapter 10: READ_STATUS after reset reports nothing but zeros. -/
theorem test_read_status :
    (run .readStatus State.reset).frame = .output .readStatus .turnaround .done (List.replicate 16 0) := by decide

/-- R143: the OVERFLOW record takes the place of the one removed. -/
theorem test_removal_reports_losses :
    let t := run .takeEventRemoval
      { State.reset with records := List.replicate 16 (logged { kind := .lineReset }), nextSeq := 42, lost := 2,
                         firstLoss := some 1800, latestLoss := some 2050, taking := true,
                         frame := .output .takeEvent (.reply 31) .done [] }
    t.records.length = 16 ∧ t.records.getLast? = some ⟨42, 1800, 2050, 1, { kind := .overflow, count := some 2 }⟩
      ∧ t.lost = 0 := by decide

/-- R159 and R160: an unknown byte gives 05h, and a period begun during a line reset is ignored. -/
theorem test_unknown_byte : (run (.slinkByteTaken 0xFF) { State.reset with frame := .command }).sdo = some 0x05
    ∧ (run .selectPeriodBegin { State.reset with rstAsserted := true }).frame = .ignored := by decide

/-! ### Witnesses -/

theorem witness_emptyQueue : State.reset.pending = [] ∧ State.reset.powerOn = false ∧ State.reset.dueEvents = []
    ∧ State.dueEvents { State.reset with pulse := some 0 } ≠ [] := by decide

theorem witness_powerOnEnd :
    let s := { State.reset with powerOn := true }
    s.powerOn = true ∧ s.rstAsserted = false := by decide

theorem witness_lineReset :
    (let s := { State.reset with rstAsserted := true }; s.rstAsserted = true ∧ s.powerOn = false)
    ∧ LinkUp State.reset
    ∧ (let s := { State.reset with rstAsserted := true, powerOn := true }; s.powerOn = true ∧ s.rstAsserted = true) :=
  ⟨by decide, up, by decide⟩

theorem witness_arrivalsNotClassified :
    State.rstAsserted { State.reset with rstAsserted := true } = true
    ∧ State.powerOn { State.reset with powerOn := true } = true
    ∧ (State.answers { State.reset with answers := List.replicate 16 ⟨0, .okay, 0⟩ }).length = 16
    ∧ (let s := { State.reset with answers := List.replicate 15 ⟨0, .okay, 0⟩ }
       LinkUp s ∧ s.answers.length < 16 ∧ legalLanes 0b0101 = false)
    ∧ (let s := { State.reset with table := [record .read .issued .unwatched false false (some 0)] }
       LinkUp s ∧ s.answers.length < 16 ∧ legalLanes 0b0001 = true ∧ ∃ t ∈ s.table, t.htag = (req .read 0b0001).tag) :=
  ⟨rfl, rfl, by decide, ⟨⟨rfl, rfl⟩, by decide, by decide⟩, ⟨rfl, rfl⟩, by decide, by decide, by decide⟩

theorem witness_unwatchedRequest :
    (Accepted (req .read 0b1111) State.reset ∧ State.reset.mode = .bypass)
    ∧ (Accepted (req .write 0b1111) (guarding { sample with base := 8 })
        ∧ (guarding { sample with base := 8 }).mode = .enforce
        ∧ (guarding { sample with base := 8 }).governing 1 = none) :=
  ⟨⟨⟨up, by decide, by decide, by intro t ht; cases ht⟩, rfl⟩, accepted _ _, rfl, by decide⟩

theorem witness_shapeFault :
    (Accepted (req .write 0b0001) (guarding sample) ∧ (guarding sample).governing 1 = some (0, sample)
      ∧ laneSize 0b0001 = some .byte ∧ sample.allows .byte = false)
    ∧ (Accepted (req .read 0b0110) (guarding sample) ∧ laneSize 0b0110 = some .half ∧ sample.allows .half = true
      ∧ sample.natural = true) :=
  ⟨⟨⟨⟨rfl, rfl⟩, by decide, by decide, by intro t ht; cases ht⟩, by decide, by decide, by decide⟩,
    ⟨⟨rfl, rfl⟩, by decide, by decide, by intro t ht; cases ht⟩, by decide, by decide, rfl⟩

theorem witness_watchedReads (a : ReadAction) :
    Watched (req .read 0b1111) 0 { sample with readAction := a } (guarding { sample with readAction := a }) :=
  ⟨accepted _ _, rfl, by cases a <;> decide, by cases a <;> decide⟩

/-- An entry with a policy, a violation action and a write-note flag, and the word write it governs. -/
theorem watchedWrite (p : Policy) (v : ViolationAction) (note : Bool)
    (hg : (guarding { sample with primary := p, violation := v, writeNote := note }).governing 1
      = some (0, { sample with primary := p, violation := v, writeNote := note })) :
    Watched (req .write 0b1111) 0 { sample with primary := p, violation := v, writeNote := note }
      (guarding { sample with primary := p, violation := v, writeNote := note }) :=
  ⟨accepted _ _, rfl, hg, rfl⟩

theorem witness_watchedWrites :
    (let r := { sample with primary := .stepped 1 16 false }
     Watched (req .write 0b1111) 0 r (guarding r) ∧ needsVerifyRead ((guarding r).snapshot 0 r) 0b1111 = true)
    ∧ (∀ note, let r := { sample with primary := .bounded 0 7, writeNote := note }
      Watched (req .write 0b1111) 0 r (guarding r) ∧ needsVerifyRead ((guarding r).snapshot 0 r) 0b1111 = false
        ∧ judge ((guarding r).snapshot 0 r) 0b1111 7 0 = .pass)
    ∧ (let r := { sample with violation := .note }
      Watched (req .write 0b1111) 0 r (guarding r) ∧ needsVerifyRead ((guarding r).snapshot 0 r) 0b1111 = false
        ∧ judge ((guarding r).snapshot 0 r) 0b1111 7 0 = .refuse .frozen) :=
  ⟨⟨watchedWrite _ _ _ (by decide), by decide⟩,
    fun note => ⟨watchedWrite _ _ _ (by cases note <;> decide), by cases note <;> decide, by cases note <;> decide⟩,
    watchedWrite _ _ _ (by decide), by decide, by decide⟩

theorem witness_writeRefused (v : ViolationAction) :
    let r := { sample with primary := .bounded 0 6, violation := v }
    Watched (req .write 0b1111) 0 r (guarding r) ∧ needsVerifyRead ((guarding r).snapshot 0 r) 0b1111 = false
      ∧ judge ((guarding r).snapshot 0 r) 0b1111 7 0 = .refuse .outOfRange :=
  ⟨watchedWrite _ _ _ (by cases v <;> decide), by cases v <;> decide, by cases v <;> decide⟩

theorem witness_newWrite :
    let r := { sample with primary := .free }
    let t := run (.arrival (req .write 0b1111)) (guarding r)
    exec (.arrival (req .write 0b1111)) (guarding r) = .next t
      ∧ ∃ x ∈ t.table, (∀ y ∈ (guarding r).table, y.htag ≠ x.htag)
          ∧ x.classification = .watchedWrite ⟨0, .entry .free, .w32, false, .error, false⟩ :=
  ⟨rfl, by decide⟩

theorem witness_classificationKept :
    let s := inFlight .forwardRead (record .read .issued .unwatched false false (some 0))
    let t := run (.mportResponseTaken ⟨0, .okay, 3⟩) s
    exec (.mportResponseTaken ⟨0, .okay, 3⟩) s = .next t ∧ t.table ≠ [] :=
  ⟨rfl, by decide⟩

theorem witness_verdicts :
    needsVerifyRead (snap (.bounded 0 7) .error false) 0b1111 = false
    ∧ (snap (.bounded 0 7) .error false).policy = .entry (.bounded 0 7)
    ∧ (snap (.stepped 1 16 false) .error false).policy = .entry (.stepped 1 16 false)
    ∧ (snap (.gated 8 true) .error false).policy = .entry (.gated 8 true)
    ∧ (snap (.gated 8 false) .error false).policy = .entry (.gated 8 false) := by decide

theorem witness_verdictIgnores :
    (verifying (.stepped 1 16 false) .error false).tag 0 = .active (serving .verify)
      ∧ (serving .verify).purpose = .verify := by decide

theorem witness_promotion :
    (let s := { State.reset with table := [record .read .waiting .unwatched false false none] }
     s.table = [] ++ record .read .waiting .unwatched false false none :: []
      ∧ ∀ w ∈ (record .read .waiting .unwatched false false none).touched, w ∉ s.orphanWords)
    ∧ (let x := record .read .waiting .unwatched false false none
       ∃ w ∈ x.touched, ∃ y ∈ [record .write .issued .unwatched false false (some 0)], w ∈ y.touched) :=
  ⟨⟨rfl, fun w _ hw => by
      rw [show State.orphanWords { State.reset with table := _ } = [] from by decide] at hw; cases hw⟩,
    1, .head _, _, .head _, .head _⟩

theorem witness_arbiter :
    (∀ verify : Bool,
      let x := record .write .ready .unwatched verify false none
      let s := { State.reset with table := [x] }
      s.port = .ready ∧ s.onOffer = none ∧ OldestCandidate s x ∧ LowestFree s 0)
    ∧ (let x := record .write .issuePending .unwatched true true none
       let s := { State.reset with table := [x] }
       OldestCandidate s x ∧ LowestFree s 0) :=
  ⟨fun verify => ⟨rfl, rfl,
      ⟨[], [], rfl, .inr ⟨rfl, .inr (by cases verify <;> decide)⟩, by intro y hy; cases hy⟩,
      by cases verify <;> decide, by intro n hn; exact absurd hn (Nat.not_lt_zero _)⟩,
    ⟨[], [], rfl, .inl rfl, by intro y hy; cases hy⟩, by decide, by intro n hn; exact absurd hn (Nat.not_lt_zero _)⟩

theorem witness_queueHeads :
    State.answers { State.reset with answers := [⟨0, .okay, 0⟩] } = [⟨0, .okay, 0⟩]
    ∧ State.deliveries { State.reset with deliveries := [2] } = [2]
    ∧ (let s := { inFlight .verify (record .write .verifying .unwatched true true (some 0)) with onOffer := some 0 }
       s.onOffer = some 0 ∧ s.tag 0 = .active (serving .verify)
        ∧ s.mportRequest = some ⟨0, .read, 1, 0b1111, 0⟩)
    ∧ (let x := record .write .issued .unwatched false false (some 0)
       let s := { inFlight .forwardWrite x with onOffer := some 0 }
       s.onOffer = some 0 ∧ s.tag 0 = .active (serving .forwardWrite) ∧ s.txn? 2 = some x
        ∧ s.mportRequest = some ⟨0, .write, 1, 0b1111, 7⟩)
    ∧ (let x := { record .read .complete .unwatched false false none with response := some (.okay, 9) }
       let s := { State.reset with table := [x], deliveries := [2] }
       s.txn? 2 = some x ∧ s.deliveryReady = some ⟨2, .okay, 9⟩) := by decide

theorem witness_responses :
    State.port { State.reset with port := .resetting 8 0 } ≠ .ready
    ∧ (State.reset.port = .ready ∧ LinkUp State.reset ∧ State.reset.tag 7 = .free)
    ∧ (let s := State.setTag 0 (.active ⟨.verify, 1, 2, none⟩) State.reset
       s.port = .ready ∧ LinkUp s ∧ s.tag 0 = .active ⟨.verify, 1, 2, none⟩) :=
  ⟨by decide, ⟨rfl, up, by decide⟩, rfl, ⟨rfl, rfl⟩, by decide⟩

theorem witness_forward :
    ∀ c ∈ [Classification.unwatched, .watchedRead .pass 0],
      let x := record .read .issued c false false (some 0)
      let s := inFlight .forwardRead x
      s.port = .ready ∧ (s.rstAsserted = false ∧ s.powerOn = false) ∧ s.tag 0 = .active (serving .forwardRead)
        ∧ (serving .forwardRead).taken = some (0, 5) ∧ (5 : BitVec 16).toNat ≤ (s.timeBase - 0).toNat
        ∧ (serving .forwardRead).purpose ≠ .verify ∧ s.txn? 2 = some x := by decide

theorem witness_verify :
    ∀ v ∈ [ViolationAction.quiet, .error, .note], ∀ note ∈ [false, true],
      let s := verifying (.gated 4 false) v note
      s.port = .ready ∧ (s.rstAsserted = false ∧ s.powerOn = false) ∧ s.tag 0 = .active (serving .verify)
        ∧ (serving .verify).taken = some (0, 5) ∧ (5 : BitVec 16).toNat ≤ (s.timeBase - 0).toNat
        ∧ s.txn? 2 = s.table.head? ∧ s.table.length = 1
        ∧ judge (snap (.gated 4 false) v note) 0b1111 7 0 = .pass
        ∧ judge (snap (.gated 4 false) v note) 0b1111 7 1 = .refuse .gateClosed := by decide

theorem witness_lateResponse :
    let s := State.setTag 7 (.orphaned ⟨.forwardRead, 1, 2, 0b1111, none⟩) State.reset
    s.port = .ready ∧ LinkUp s ∧ s.tag 7 = .orphaned ⟨.forwardRead, 1, 2, 0b1111, none⟩ :=
  ⟨rfl, ⟨rfl, rfl⟩, by decide⟩

theorem witness_mportReset :
    (LinkUp State.reset ∧ State.reset.port = .ready)
    ∧ (let s := { State.reset with timeBase := 8, port := .resetting 8 0 }
       LinkUp s ∧ s.port ≠ .ready ∧ s.port = .resetting s.timeBase 0) :=
  ⟨⟨up, rfl⟩, ⟨rfl, rfl⟩, by decide, rfl⟩

theorem sampleSound (p : Nat) (hp : p < 2) (a : SeqAction) :
    Matcher.Sound ⟨sequence a, p, if p = 0 then none else some 9⟩ :=
  ⟨hp, by show (2 : Nat) ≤ 6; decide, by by_cases h : p = 0 <;> simp [h]⟩

/-- Every case of a completion notice: not relevant, matching the first step or the last, and breaking. -/
theorem witness_takeCompletion (a : SeqAction) :
    let first : SeqStep := ⟨.write, 0, 0xFF, 7⟩
    let last : SeqStep := ⟨.read, 0, 0, 0⟩
    Matcher.Sound ⟨sequence a, 0, none⟩ ∧ Matcher.Sound ⟨sequence a, 1, some 9⟩
      ∧ (sequence a).steps[0]? = some first ∧ (sequence a).steps[1]? = some last
      ∧ first.Matches ⟨.write, 0, 0b1111, 7⟩ ∧ last.Matches ⟨.read, 0, 0b0001, 0⟩
      ∧ ¬ first.Matches ⟨.write, 0, 0b1111, 8⟩ ∧ ¬ last.Matches ⟨.write, 0, 0b1111, 7⟩
      ∧ ¬ ∃ x ∈ (sequence a).steps, x.kind = .write ∧ x.region = 1 := by
  refine ⟨sampleSound 0 (by decide) a, sampleSound 1 (by decide) a, rfl, rfl, ⟨rfl, rfl, by decide⟩,
    ⟨rfl, rfl, by decide⟩, ?_, ?_, ?_⟩
  · rintro ⟨-, -, h⟩; exact absurd (h 0) (by decide)
  · rintro ⟨h, -⟩; cases h
  · rintro ⟨x, hx, h, hr⟩
    simp only [sequence, List.mem_cons, List.not_mem_nil, or_false] at hx
    obtain rfl | rfl := hx
    · exact absurd hr (by decide)
    · cases h

theorem witness_completionAction (a : SeqAction) :
    let m : Matcher := ⟨sequence a, 1, some 9⟩
    (watching m).matcher 0 = some m ∧ (∀ j, j ≠ 0 → (watching m).matcher j = none) ∧ m.Sound
      ∧ (m.takeCompletion ⟨.read, 0, 0b1111, 0⟩ 0).2.2 = true :=
  ⟨rfl, by intro j hj; fin_cases j <;> first | exact absurd rfl hj | rfl, sampleSound 1 (by decide) a, rfl⟩

theorem witness_timers :
    (State.setGroup 3 (.opened 0) State.reset).group 3 = .opened State.reset.timeBase
    ∧ (watching ⟨sequence .noteOnly, 1, some 0⟩).matcher 0 = some ⟨sequence .noteOnly, 1, some 0⟩
    ∧ State.pulse { State.reset with pulse := some 0 } = some 0
    ∧ State.openUntil { State.reset with openUntil := some 0 } = some 0 := by decide

/-- A notice that breaks one sequence in progress and completes another (O34), and the groups a matcher's request can meet
(O35). -/
theorem witness_completionMoves :
    let broken : Matcher := ⟨⟨[⟨.read, 0, 0, 0⟩, ⟨.read, 1, 0, 0⟩], 1, .noteOnly⟩, 1, some 9⟩
    let done : Matcher := ⟨sequence (.freezeGroup 2), 1, some 9⟩
    let n : Notice := ⟨.read, 0, 0b1111, 0⟩
    (broken.takeCompletion n 0).2 = (some 1, false) ∧ (done.takeCompletion n 0).2 = (none, true)
      ∧ State.reset.group 2 = .closed ∧ (State.setGroup 2 .frozen State.reset).group 2 = .frozen
      ∧ (State.setGroup 2 (.opened 7) State.reset).group 2 = .opened 7 := by decide

theorem witness_openWindow :
    LinkUp State.reset ∧ State.reset.lock = false ∧ (3 : Byte) = BitVec.ofNat 8 (3 : GroupIndex).val
      ∧ State.reset.group 3 = .closed ∧ (State.setGroup 3 .frozen State.reset).group 3 = .frozen
      ∧ (State.setGroup 3 (.opened 999) State.reset).group 3 = .opened 999
      ∧ ((999 : Time) - State.reset.timeBase).toNat < (1 : BitVec 16).toNat * 1000
      ∧ (State.setGroup 3 (.opened 1000) State.reset).group 3 = .opened 1000
      ∧ (1 : BitVec 16).toNat * 1000 ≤ ((1000 : Time) - State.reset.timeBase).toNat ∧ 3 < (4 : Byte).toNat :=
  ⟨up, by decide⟩

theorem witness_frozenGroup :
    let s := State.setGroup 0 .frozen State.reset
    s.group 0 = .frozen ∧ exec .lineResetAssert s = .next (run .lineResetAssert s) := ⟨by decide, rfl⟩

theorem witness_appends :
    let e : Event := { kind := .malformed, word := some 1 }
    (let s := { State.reset with records := [logged e], openUntil := some 9 }
     s.records = [] ++ [logged e] ∧ MayCoalesce s e (logged e))
    ∧ (∀ r, ¬ MayCoalesce State.reset e r) ∧ State.reset.records.length < 16
    ∧ (let s := { State.reset with records := List.replicate 16 (logged e) }
       (∀ r, ¬ MayCoalesce s e r) ∧ 16 ≤ s.records.length) :=
  ⟨⟨rfl, rfl, rfl, rfl, rfl, rfl, rfl, rfl, rfl⟩, fun _ h => absurd h.2.1 (by decide), by decide,
    fun _ h => absurd h.2.1 (by decide), by decide⟩

theorem witness_takeEvent :
    State.reset.records = [] ∧ LinkUp State.reset
    ∧ (let s := { State.reset with records := [logged { kind := .lineReset }] }
       LinkUp s ∧ s.records = [logged { kind := .lineReset }])
    ∧ (∀ lost ∈ [0, 1],
        let s := { State.reset with
          records := [logged { kind := .lineReset }], taking := true, lost := lost, firstLoss := some 3,
          latestLoss := some 4, frame := .output .takeEvent .result .done [] }
        s.frame = .output .takeEvent .result .done [] ∧ s.taking = true
          ∧ s.records = [logged { kind := .lineReset }] ∧ s.firstLoss = some 3 ∧ s.latestLoss = some 4) :=
  ⟨rfl, up, ⟨⟨rfl, rfl⟩, rfl⟩, by decide⟩

theorem witness_recordsKept :
    let s := { State.reset with records := [logged { kind := .lineReset }] }
    exec .readStatus s = .next (run .readStatus s) ∧ s.records[0]? = some (logged { kind := .lineReset }) :=
  ⟨rfl, rfl⟩

theorem witness_causes :
    LinkUp State.reset ∧ (15 : Byte).toNat < 16 ∧ 16 ≤ (16 : Byte).toNat
    ∧ (let s := { State.reset with timing := { Timing.reset with attnMode := .repulse }, latches := ⟨false, true, true, true⟩,
                                   mask := ⟨false, true, true, true⟩ }
       s.timing.attnMode = .repulse ∧ s.gap = none ∧ s.latches.has .memory = true ∧ s.mask.has .memory = true)
    ∧ State.reset.timing.attnMode = .steady :=
  ⟨up, by decide⟩

theorem witness_gap : State.gap { State.reset with gap := some 0 } = some State.reset.timeBase
    ∧ State.gap { State.reset with gap := some 1 } = some 1 ∧ (1 : Time) ≠ State.reset.timeBase := by decide

theorem witness_unknownCommand :
    LinkUp State.reset ∧ Command.ofCode? 0xFF = none
      ∧ State.frame { State.reset with frame := .command } = .command
      ∧ State.frame { State.reset with frame := .unknown } = .unknown :=
  ⟨up, by decide⟩

theorem witness_frames :
    (LinkUp State.reset ∧ State.reset.frame = .idle)
    ∧ (¬ LinkUp { State.reset with rstAsserted := true } ∧ State.frame { State.reset with rstAsserted := true } = .idle)
    ∧ Command.argCount .setMode ≠ 0
    ∧ (let s := { State.reset with frame := .argument .openWindow [0] }
       LinkUp s ∧ s.frame = .argument .openWindow [0] ∧ [(0 : Byte)].length + 1 < Command.argCount .openWindow)
    ∧ (let s := { State.reset with frame := .output .readStatus .turnaround .done [1] }
       LinkUp s ∧ Runs [.slinkByteTaken 0] s { s with frame := .output .readStatus .result .done [1] }) :=
  ⟨⟨up, rfl⟩, ⟨fun h => absurd h.1 (by decide), rfl⟩, by decide, ⟨⟨rfl, rfl⟩, rfl, by decide⟩, ⟨rfl, rfl⟩,
    ⟨_, rfl, rfl⟩⟩

/-- Bytes taken one after another. -/
theorem runs_bytes : ∀ (bytes : List Byte) (s : State),
    Runs (bytes.map Instr.slinkByteTaken) s (bytes.foldl (fun u b => run (.slinkByteTaken b) u) s)
  | [], _ => rfl
  | _ :: rest, _ => ⟨_, rfl, runs_bytes rest _⟩

/-- The turnaround of a TAKE_EVENT that has named a record, and the 34 bytes up to its removal event (O48). -/
theorem witness_removalFrame :
    let r := logged { kind := .lineReset }
    let s := { State.reset with records := [r], taking := true, frame := .output .takeEvent .turnaround .done r.encode }
    let sdi : List Byte := List.replicate 34 0
    LinkUp s ∧ s.frame = .output .takeEvent .turnaround .done r.encode ∧ s.taking = true ∧ r.encode.length = 32
      ∧ sdi.length = 34
      ∧ Runs (sdi.map Instr.slinkByteTaken) s (sdi.foldl (fun u b => run (.slinkByteTaken b) u) s) :=
  ⟨⟨rfl, rfl⟩, rfl, rfl, by decide, by decide, runs_bytes _ _⟩

/-- SDO in the periods that are ignored, wait for a command or collect its arguments (O48). -/
theorem witness_sdoBeforeEffect :
    ∀ frame ∈ [Frame.ignored, .command, .argument .setMode []],
      let s := { State.reset with frame := frame }
      s.powerOn = false ∧ (s.frame = .ignored ∨ s.frame = .command ∨ s.frame = .argument .setMode []) := by decide

theorem witness_rows : frameOf (.setMode 1) = some (.setMode, [1]) ∧ LinkUp State.reset := ⟨rfl, up⟩

theorem witness_modeAndLock :
    LinkUp State.reset ∧ State.reset.lock = false ∧ State.reset.mode = .bypass ∧ (guarding sample).mode = .enforce
      ∧ (guarding sample).lock = false ∧ 1 < (2 : Byte).toNat
      ∧ State.lock { State.reset with lock := true } = true
      ∧ frameOf (.dropRegion 0) = some (.dropRegion, [0]) :=
  ⟨up, by decide⟩

theorem witness_locked :
    let s := { State.reset with lock := true, mode := .enforce }
    s.lock = true ∧ exec (.setMode 0) s = .next (run (.setMode 0) s) := ⟨rfl, rfl⟩

theorem witness_imageRoundTrips :
    entry2.legal = true ∧ image2.toList.length = 32 ∧ Region.decode? image2.toList = some entry2
      ∧ (sequence .resetPulse).legal = true ∧ (sequence .resetPulse).encode.length = 68
      ∧ SeqDef.decode? (sequence .resetPulse).encode = some (sequence .resetPulse) := by decide

theorem witness_regionCommands :
    LinkUp State.reset ∧ State.reset.lock = false ∧ (31 : Byte) = BitVec.ofNat 8 (31 : RegionIndex).val
      ∧ Region.decode? image2.toList = some entry2 ∧ Region.decode? (Vector.replicate 32 (0 : Byte)).toList = none
      ∧ State.reset.region 31 = none ∧ (guarding sample).region 0 = some sample ∧ 31 < (32 : Byte).toNat :=
  ⟨up, by decide⟩

theorem witness_sequenceCommands :
    LinkUp State.reset ∧ (3 : Byte) = BitVec.ofNat 8 (3 : MatcherIndex).val
      ∧ SeqDef.decode? (Vector.replicate 68 (0 : Byte)).toList = none ∧ State.reset.matcher 3 = none
      ∧ (watching ⟨sequence .noteOnly, 1, some 65535000⟩).matcher 0 = some ⟨sequence .noteOnly, 1, some 65535000⟩
      ∧ ((65535000 : Time) - State.reset.timeBase).toNat ≤ 65535000 ∧ 3 < (4 : Byte).toNat :=
  ⟨up, by decide⟩

/-- A matcher at progress 0 (O54). -/
theorem witness_sequenceAtStart :
    let m : Matcher := ⟨sequence .noteOnly, 0, none⟩
    (watching m).matcher 0 = some m ∧ m.Sound ∧ m.progress = 0 ∧ m.deadline = none :=
  ⟨rfl, sampleSound 0 (by decide) .noteOnly, rfl, rfl⟩

theorem witness_timingCommands :
    LinkUp State.reset ∧ State.reset.lock = false
      ∧ (let image : Vector Byte 12 := #v[1, 0, 0, 1, 0, 0, 255, 16, 1, 0, 0, 0]
         ¬ ((image[0] = 0 ∧ image[1] = 0) ∨ (image[2] = 0 ∧ image[3] = 0) ∨ image[6] = 0 ∨ image[7] = 0
          ∨ 16 < image[7].toNat ∨ 1 < image[8].toNat ∨ image[9] ≠ 0 ∨ image[10] ≠ 0 ∨ image[11] ≠ 0))
      ∧ (let image : Vector Byte 12 := #v[1, 0, 0, 1, 0, 0, 255, 17, 1, 0, 0, 0]
         16 < image[7].toNat) :=
  ⟨up, by decide, by decide, by decide⟩

theorem witness_readStatus : LinkUp State.reset ∧ State.reset.records.length ≤ 16 ∧ State.reset.lost ≤ 65535
    ∧ State.reset.table.length ≤ 16 ∧ State.reset.slotsInUse ≤ 4 := ⟨up, by decide⟩

/-- A log with one record meets the laws of the log. -/
theorem witness_logSound :
    LogSound { State.reset with records := [logged { kind := .lineReset }], nextSeq := 1 } := by
  refine ⟨by decide, fun i hi => ?_, by decide, by decide, by decide, by decide, by decide, fun h => (by cases h), by decide,
    by decide, by decide, fun _ _ h => (by cases h)⟩
  obtain rfl : i = 0 := Nat.lt_one_iff.mp hi
  rfl

/-- A locked unit with an entry and a sequence in progress meets the laws of the configuration and the matchers. -/
theorem witness_configSound :
    let s := { guarding entry2 with
      lock := true, matchers := (Vector.replicate 4 none).set 2 (some ⟨sequence .noteOnly, 1, some 9⟩) }
    ConfigSound s ∧ MatchersSound s := by
  intro s
  have region : ∀ i, s.region i = none ∨ s.region i = some entry2 := by decide
  have matcher : ∀ i, s.matcher i = none ∨ s.matcher i = some ⟨sequence .noteOnly, 1, some 9⟩ := by decide
  refine ⟨⟨by decide, fun i r h => ?_, fun i m h => ?_, fun _ => rfl⟩, fun i m h => ?_⟩
  · obtain e | e := region i <;> rw [e] at h <;> cases h
    decide
  · obtain e | e := matcher i <;> rw [e] at h <;> cases h
    decide
  · obtain e | e := matcher i <;> rw [e] at h <;> cases h
    exact sampleSound 1 (by decide) .noteOnly

/-- A read whose request memory has taken meets the laws of the table, and no grant is open beside it. -/
theorem witness_tableSound :
    let s := inFlight .forwardRead (record .read .issued .unwatched false false (some 0))
    TableSound s ∧ ArbiterSettled s := by
  intro s
  have tag : ∀ m, m = 0 ∧ s.tag m = .active (serving .forwardRead) ∨ s.tag m = .free := by decide
  have mem : ∀ t ∈ s.table, t = record .read .issued .unwatched false false (some 0) := by simp [s, inFlight]
  refine ⟨⟨by simp [DistinctTags, s, inFlight], ?_, ?_, by decide, List.nodup_nil, ?_, ?_, ?_, by decide, ?_, fun h => absurd rfl h⟩,
    fun _ _ => by decide⟩
  · show s.slotsInUse ≤ 4
    decide
  · intro t ht
    rw [mem t ht]
    decide
  · intro h
    refine ⟨fun hd => (by cases hd), ?_⟩
    rintro ⟨t, ht, -, hc⟩
    rw [mem t ht] at hc
    cases hc
  · intro m a ha
    obtain ⟨rfl, e⟩ | e := tag m <;> rw [e] at ha <;> cases ha
    exact ⟨_, .head _, rfl, rfl, rfl, rfl⟩
  · intro t ht m hm
    rw [mem t ht] at hm ⊢
    cases hm
    exact ⟨serving .forwardRead, by decide, rfl⟩
  · intro m
    refine ⟨fun h => (by cases h), ?_⟩
    rintro ⟨a, ha, hn⟩
    obtain ⟨rfl, e⟩ | e := tag m <;> rw [e] at ha <;> cases ha
    cases hn

/-- A unit under line reset is quiet. -/
theorem witness_quiet :
    let s := { State.reset with rstAsserted := true }
    ¬ LinkUp s ∧ Quiet s := by
  intro s
  have closed : ∀ g, s.group g = .closed := by decide
  have noMatcher : ∀ i, s.matcher i = none := by decide
  refine ⟨fun h => absurd h.1 (by decide),
    ⟨rfl, rfl, rfl, by decide, rfl, rfl, fun g e h => ?_, fun i m h => ?_, ⟨rfl, rfl⟩, rfl, .inl rfl⟩⟩
  · rw [closed] at h; cases h
  · rw [noMatcher] at h; cases h

end Sys2Proof.Tests
end

section
/-! SUPPORT and PROOFS. The write verdicts of chapter 3: the values of an element and the step between two of them, the
verdict over the touched elements, and what STEPPED and GATED answer. -/

namespace Sys2Proof.Machine

/-! ### The value of an element (R3) -/

/-- With `2 ^ (w.bits - 1)` as the only power left, the ranges of R3 and R46 are compared by linear arithmetic. -/
theorem ElementWidth.two_pow_bits (w : ElementWidth) : (2 ^ w.bits : Int) = 2 * 2 ^ (w.bits - 1) := by
  cases w <;> rfl

theorem elementRaw_lt (w : ElementWidth) (word : Word) (k : Nat) :
    (elementRaw w word k : Int) < 2 ^ w.bits := by
  have raw : elementRaw w word k < 2 ^ w.bits := Nat.mod_lt _ (Nat.two_pow_pos _)
  exact_mod_cast raw

@[simp] theorem elementValue_false (w : ElementWidth) (word : Word) (k : Nat) :
    elementValue w false word k = elementRaw w word k := rfl

theorem elementValue_true (w : ElementWidth) (word : Word) (k : Nat) :
    elementValue w true word k
      = if 2 ^ (w.bits - 1) ≤ elementRaw w word k then (elementRaw w word k : Int) - 2 ^ w.bits
        else elementRaw w word k := by
  simp [elementValue, readSigned]

theorem inElementRange_iff (w : ElementWidth) (signed : Bool) (v : Int) :
    inElementRange w signed v = true ↔ elementMin w signed ≤ v ∧ v ≤ elementMax w signed := by
  simp [inElementRange]

/-- The element range has `2 ^ w.bits` values, under either signedness. -/
theorem elementMax_sub_elementMin (w : ElementWidth) (signed : Bool) :
    elementMax w signed - elementMin w signed = 2 ^ w.bits - 1 := by
  have pow := w.two_pow_bits
  cases signed <;> simp only [elementMax, elementMin, if_true, Bool.false_eq_true, if_false] <;> omega

/-- The value of an element lies in the element range. -/
theorem inElementRange_elementValue (w : ElementWidth) (signed : Bool) (word : Word) (k : Nat) :
    inElementRange w signed (elementValue w signed word k) = true := by
  have pow := w.two_pow_bits
  have raw := elementRaw_lt w word k
  rw [inElementRange_iff]
  cases signed with
  | false =>
    simp only [elementMin, elementMax, elementValue_false, Bool.false_eq_true, if_false]
    omega
  | true =>
    rw [elementValue_true]
    have half : ((2 ^ (w.bits - 1) : Nat) : Int) = 2 ^ (w.bits - 1) := by push_cast; rfl
    simp only [elementMin, elementMax, if_true]
    split <;> omega

/-- The signed and the unsigned value of an element differ by a multiple of the number of its values. -/
theorem elementValue_true_sub_false_dvd (w : ElementWidth) (word : Word) (k : Nat) :
    (2 ^ w.bits : Int) ∣ elementValue w true word k - elementValue w false word k := by
  rw [elementValue_true, elementValue_false]
  split
  · exact ⟨-1, by ring⟩
  · simp

/-- Two values of the element range that are congruent are equal. -/
theorem eq_of_inElementRange_of_dvd {w : ElementWidth} {signed : Bool} {a b : Int}
    (ha : inElementRange w signed a = true) (hb : inElementRange w signed b = true)
    (h : (2 ^ w.bits : Int) ∣ a - b) : a = b := by
  obtain ⟨minA, maxA⟩ := (inElementRange_iff ..).1 ha
  obtain ⟨minB, maxB⟩ := (inElementRange_iff ..).1 hb
  have size := elementMax_sub_elementMin w signed
  have close : |a - b| < 2 ^ w.bits := abs_lt.2 ⟨by omega, by omega⟩
  exact Int.sub_eq_zero.1 (Int.eq_zero_of_abs_lt_dvd h close)

/-! ### The step of an element (R46) -/

theorem stepOf_dvd (w : ElementWidth) (o n : Int) : (2 ^ w.bits : Int) ∣ (n - o) - stepOf w o n := by
  simpa [stepOf] using Int.dvd_self_sub_bmod (x := n - o) (m := 2 ^ w.bits)

theorem stepOf_bounds (w : ElementWidth) (o n : Int) :
    -(2 ^ (w.bits - 1)) ≤ stepOf w o n ∧ stepOf w o n ≤ 2 ^ (w.bits - 1) - 1 := by
  have pow := w.two_pow_bits
  have lower := Int.le_bmod (x := n - o) (Nat.two_pow_pos w.bits)
  have upper := Int.bmod_lt (x := n - o) (Nat.two_pow_pos w.bits)
  push_cast at lower upper
  unfold stepOf
  omega

@[simp] theorem stepOf_self (w : ElementWidth) (o : Int) : stepOf w o o = 0 := by
  simp [stepOf]

/-- The step depends on the two values only up to multiples of the number of values. -/
theorem stepOf_congr {w : ElementWidth} {o o' n n' : Int} (ho : (2 ^ w.bits : Int) ∣ o - o')
    (hn : (2 ^ w.bits : Int) ∣ n - n') : stepOf w o n = stepOf w o' n' := by
  have diff : (2 ^ w.bits : Int) ∣ (n - o) - (n' - o') := by
    simpa only [sub_sub_sub_comm] using dvd_sub hn ho
  unfold stepOf
  rw [Int.bmod_eq_bmod_iff_bmod_sub_eq_zero]
  exact Int.bmod_eq_zero_of_dvd (by exact_mod_cast diff)

/-- The old value plus the step is the new value, or leaves the element range (R48). -/
theorem inElementRange_add_stepOf_iff {w : ElementWidth} {signed : Bool} {o n : Int}
    (hn : inElementRange w signed n = true) :
    inElementRange w signed (o + stepOf w o n) = true ↔ o + stepOf w o n = n := by
  constructor
  · intro h
    have congruent : (2 ^ w.bits : Int) ∣ n - (o + stepOf w o n) := by
      simpa only [sub_sub] using stepOf_dvd w o n
    exact (eq_of_inElementRange_of_dvd hn h congruent).symm
  · intro h
    rwa [h]

/-- Settles O17: the step is the centred residue of the difference, and the element range holds each residue once. -/
theorem stepOfAnElement : Obligations.StepOfAnElement := by
  intro w old new k
  refine ⟨fun signed => ?_, ?_⟩
  · intro o n
    obtain ⟨lower, upper⟩ := stepOf_bounds w o n
    refine ⟨stepOf_dvd w o n, lower, upper, fun unchanged => ?_, ?_⟩
    · rw [unchanged, stepOf_self]
    · exact inElementRange_add_stepOf_iff (inElementRange_elementValue w signed new k)
  · exact stepOf_congr (elementValue_true_sub_false_dvd w old k) (elementValue_true_sub_false_dvd w new k)

/-! ### The verdict over the touched elements (R53) -/

theorem touchedElements_pairwise_lt (w : ElementWidth) (lanes : Lanes) :
    (touchedElements w lanes).Pairwise (· < ·) :=
  List.pairwise_lt_range.filter _

theorem verdictOver_eq_pass_iff (elements : List Nat) (check : Nat → Option Reason) :
    verdictOver elements check = .pass ↔ ∀ k ∈ elements, check k = none := by
  rw [← List.findSome?_eq_none_iff]
  unfold verdictOver
  cases elements.findSome? check <;> simp

theorem verdictOver_eq_refuse_iff_findSome? (elements : List Nat) (check : Nat → Option Reason) (reason : Reason) :
    verdictOver elements check = .refuse reason ↔ elements.findSome? check = some reason := by
  unfold verdictOver
  cases elements.findSome? check <;> simp

/-- Over elements in ascending order, a refusal carries the reason of the lowest-numbered failing one. -/
theorem verdictOver_eq_refuse_iff {elements : List Nat} (ascending : elements.Pairwise (· < ·))
    (check : Nat → Option Reason) (reason : Reason) :
    verdictOver elements check = .refuse reason ↔
      ∃ k ∈ elements, check k = some reason ∧ ∀ j ∈ elements, j < k → check j = none := by
  rw [verdictOver_eq_refuse_iff_findSome?]
  constructor
  · intro h
    obtain ⟨before, k, rest, rfl, fails, pass⟩ := List.findSome?_eq_some_iff.1 h
    obtain ⟨-, fromK, -⟩ := List.pairwise_append.1 ascending
    refine ⟨k, by simp, fails, fun j hj lt => ?_⟩
    obtain hj | rfl | hj : j ∈ before ∨ j = k ∨ j ∈ rest := by simpa using hj
    · exact pass j hj
    · exact absurd lt (Nat.lt_irrefl _)
    · exact absurd lt (Nat.lt_asymm ((List.pairwise_cons.1 fromK).1 j hj))
  · rintro ⟨k, hk, fails, pass⟩
    obtain ⟨before, rest, rfl⟩ := List.append_of_mem hk
    obtain ⟨-, -, below⟩ := List.pairwise_append.1 ascending
    refine List.findSome?_eq_some_iff.2 ⟨before, k, rest, rfl, fails, fun j hj => ?_⟩
    exact pass j (by simp [hj]) (below j hj k (by simp))

/-! ### STEPPED (R47, R48) -/

/-- A parameter of STEPPED is read as a signed number. -/
theorem paramValue_true (p : Word) : paramValue true p = p.toInt := by
  rw [BitVec.toInt_eq_toNat_cond]
  simp only [paramValue, readSigned, Bool.true_and, decide_eq_true_eq]
  split <;> split <;> omega

theorem steppedElement_eq (w : ElementWidth) (signed : Bool) (lo hi : Word) (wrapAllow : Bool) (old new : Word)
    (k : Nat) :
    steppedElement w signed lo hi wrapAllow old new k =
      let o := elementValue w signed old k
      let d := stepOf w o (elementValue w signed new k)
      if lo.toInt ≤ d ∧ d ≤ hi.toInt then
        if wrapAllow = false ∧ inElementRange w signed (o + d) = false then some .stepWrap else none
      else some .stepOut := by
  simp only [steppedElement, paramValue_true, Bool.and_eq_true, Bool.not_eq_true', ite_not]

/-- An element passes STEPPED when it passes the step check and, under WRAP_FORBID, the wrap check. -/
theorem steppedElement_eq_none_iff (w : ElementWidth) (signed : Bool) (lo hi : Word) (wrapAllow : Bool) (old new : Word)
    (k : Nat) :
    steppedElement w signed lo hi wrapAllow old new k = none ↔
      let o := elementValue w signed old k
      let d := stepOf w o (elementValue w signed new k)
      (lo.toInt ≤ d ∧ d ≤ hi.toInt) ∧ ¬ (wrapAllow = false ∧ inElementRange w signed (o + d) = false) := by
  rw [steppedElement_eq]
  dsimp only
  split_ifs with steps wraps
  · simp only [steps, wraps, and_self, not_true_eq_false, and_false]
  · simp only [steps, wraps, and_self, not_false_eq_true]
  · simp only [steps, false_and]

/-- The step check comes before the wrap check. -/
theorem steppedElement_eq_some_iff (w : ElementWidth) (signed : Bool) (lo hi : Word) (wrapAllow : Bool) (old new : Word)
    (k : Nat) (reason : Reason) :
    steppedElement w signed lo hi wrapAllow old new k = some reason ↔
      let o := elementValue w signed old k
      let d := stepOf w o (elementValue w signed new k)
      let steps := lo.toInt ≤ d ∧ d ≤ hi.toInt
      let wraps := wrapAllow = false ∧ inElementRange w signed (o + d) = false
      ¬ steps ∧ reason = .stepOut ∨ steps ∧ wraps ∧ reason = .stepWrap := by
  rw [steppedElement_eq]
  dsimp only
  split_ifs with steps wraps
  · simp only [steps, wraps, and_self, true_and, not_true_eq_false, false_and, false_or, Option.some.injEq, eq_comm]
  · simp only [steps, wraps, and_self, not_true_eq_false, false_and, and_false, or_self]
  · simp only [steps, not_false_eq_true, true_and, false_and, or_false, Option.some.injEq, eq_comm]

/-! ### What each policy judges, and its verify read (Table 3-2) -/

theorem judge_stepped {snap : Snapshot} {lo hi : Word} {wrapAllow : Bool}
    (h : snap.policy = .entry (.stepped lo hi wrapAllow)) (lanes : Lanes) (data v : Word) :
    judge snap lanes data v = verdictOver (touchedElements snap.width lanes)
      (steppedElement snap.width snap.signed lo hi wrapAllow v (mergeLanes lanes data v)) := by
  simp only [judge, h]

theorem judge_gated {snap : Snapshot} {companion : BitVec 32} {nonzero : Bool}
    (h : snap.policy = .entry (.gated companion nonzero)) (lanes : Lanes) (data v : Word) :
    judge snap lanes data v = if gateMet nonzero v then .pass else .refuse .gateClosed := by
  simp only [judge, h]

theorem needsVerifyRead_stepped {snap : Snapshot} {lo hi : Word} {wrapAllow : Bool}
    (h : snap.policy = .entry (.stepped lo hi wrapAllow)) (lanes : Lanes) : needsVerifyRead snap lanes = true := by
  simp only [needsVerifyRead, h]

theorem needsVerifyRead_gated {snap : Snapshot} {companion : BitVec 32} {nonzero : Bool}
    (h : snap.policy = .entry (.gated companion nonzero)) (lanes : Lanes) : needsVerifyRead snap lanes = true := by
  simp only [needsVerifyRead, h]

/-- A write that needs a verify read is not judged at its arrival (R31). -/
theorem arrivalVerdict_eq_none {snap : Snapshot} {lanes : Lanes} (h : needsVerifyRead snap lanes = true) (data : Word) :
    arrivalVerdict snap lanes data = none := by
  simp only [arrivalVerdict, h, if_true]

/-- Settles O18: the verdict over the ascending touched elements, each judged by its step and wrap checks. -/
theorem steppedVerdict : Obligations.SteppedVerdict := by
  intro snap lo hi wrapAllow lanes data v policy o d steps wraps touched
  have verify := needsVerifyRead_stepped policy lanes
  refine ⟨?_, fun reason => ?_, verify, arrivalVerdict_eq_none verify data, by rw [policy]; rfl⟩
  · rw [judge_stepped policy, verdictOver_eq_pass_iff]
    simp only [steppedElement_eq_none_iff]
    exact Iff.rfl
  · rw [judge_stepped policy, verdictOver_eq_refuse_iff (touchedElements_pairwise_lt ..)]
    simp only [steppedElement_eq_none_iff, steppedElement_eq_some_iff]
    exact Iff.rfl

/-! ### GATED (R50) -/

theorem gateMet_zero_iff (v : Word) : gateMet false v = true ↔ v = 0 := by
  simp [gateMet]

theorem gateMet_nonzero_iff (v : Word) : gateMet true v = true ↔ v ≠ 0 := by
  simp [gateMet]

/-- Settles O19: the gate reads the verify word alone. -/
theorem gatedVerdict : Obligations.GatedVerdict := by
  intro snap companion nonzero lanes data v policy
  have verify := needsVerifyRead_gated policy lanes
  refine ⟨?_, ?_, verify, arrivalVerdict_eq_none verify data, by rw [policy]; rfl⟩
  · rintro rfl
    simp only [judge_gated policy, gateMet_zero_iff]
  · rintro rfl
    simp only [judge_gated policy, gateMet_nonzero_iff]

end Sys2Proof.Machine
end

section
/-! SUPPORT and PROOFS. The attention line of chapter 9: the causes of a set, when ATTN_N is asserted, and the end of
the repulse gap. -/

namespace Sys2Proof.Machine

/-! ### Cause sets (R149) -/

@[simp] theorem CauseSet.has_inter (a b : CauseSet) (c : Cause) : (a.inter b).has c = (a.has c && b.has c) := by
  cases c <;> rfl

theorem CauseSet.any_of_has {a : CauseSet} {c : Cause} (h : a.has c = true) : a.any = true := by
  cases c <;> simp_all [CauseSet.has, CauseSet.any]

theorem CauseSet.any_iff_exists_has (a : CauseSet) : a.any = true ↔ ∃ c, a.has c = true := by
  constructor
  · intro h
    simp only [CauseSet.any, Bool.or_eq_true] at h
    obtain ((log | lost) | sequence) | memory := h
    · exact ⟨.log, log⟩
    · exact ⟨.lost, lost⟩
    · exact ⟨.sequence, sequence⟩
    · exact ⟨.memory, memory⟩
  · rintro ⟨c, h⟩
    exact CauseSet.any_of_has h

/-! ### The line (R151) -/

theorem State.unmaskedLatched_iff (s : State) :
    s.unmaskedLatched = true ↔ ∃ c, s.latches.has c = true ∧ s.mask.has c = true := by
  unfold State.unmaskedLatched
  simp only [CauseSet.any_iff_exists_has, CauseSet.has_inter, Bool.and_eq_true]

theorem State.attnAsserted_iff (s : State) :
    s.attnAsserted = true ↔ (∃ c, s.latches.has c = true ∧ s.mask.has c = true)
      ∧ s.gap = none ∧ s.rstAsserted = false ∧ s.powerOn = false := by
  rw [← s.unmaskedLatched_iff]
  simp only [State.attnAsserted, Bool.and_eq_true, Bool.not_eq_true', Option.isNone_iff_eq_none, and_assoc]

/-! ### The end of the repulse gap (R154) -/

@[simp] theorem State.gapDue_iff (s : State) : s.gapDue = true ↔ s.gap = some s.timeBase := by
  simp [State.gapDue]

theorem exec_repulseGapEnd_of_due {s : State} (due : s.gap = some s.timeBase) :
    exec .repulseGapEnd s = .next { s with gap := none } :=
  congrArg Host.Outcome.next (if_pos (s.gapDue_iff.2 due))

/-- Settles O45: the end clears the gap alone, which is the one condition of R151 that it can change. -/
theorem repulseGapEnds : Obligations.RepulseGapEnds := by
  intro s due
  refine ⟨_, exec_repulseGapEnd_of_due due, rfl, ?_⟩
  simpa only [true_and] using State.attnAsserted_iff { s with gap := none }

end Sys2Proof.Machine
end

section
/-! SUPPORT and PROOFS. The management link of chapter 10: the command codes of Table 10-3, the taking of a byte while
the link is up, and the frame of an unknown command. -/

namespace Sys2Proof

/-! ### The command codes (Table 10-3) -/

theorem Command.mem_all (c : Command) : c ∈ Command.all := by
  cases c <;> decide

/-- Reading a command's code gives that command back, so the codes are distinct. -/
@[simp] theorem Command.ofCode?_code (c : Command) : Command.ofCode? c.code = some c := by
  cases c <;> rfl

theorem Command.ofCode?_eq_none_iff (b : Byte) : Command.ofCode? b = none ↔ ∀ c : Command, c.code ≠ b := by
  simp only [Command.ofCode?, List.find?_eq_none, beq_iff_eq]
  exact ⟨fun h c => h c c.mem_all, fun h c _ => h c⟩

end Sys2Proof

namespace Sys2Proof.Machine

/-! ### The taking of a byte (R156 to R160) -/

theorem State.slinkTakes_iff_linkUp (s : State) : s.slinkTakes = true ↔ LinkUp s := by
  simp only [State.slinkTakes, LinkUp, Bool.and_eq_true, Bool.not_eq_true']

theorem exec_slinkByteTaken_of_linkUp {s : State} (up : LinkUp s) (b : Byte) :
    exec (.slinkByteTaken b) s = .next (s.takeByte b) :=
  congrArg Host.Outcome.next (if_pos (s.slinkTakes_iff_linkUp.2 up))

theorem exec_frameDeselect (s : State) :
    exec .frameDeselect s = .next { s with frame := .idle, taking := false } := rfl

/-! ### The frame of an unknown command (R159) -/

theorem State.takeByte_of_unknownCode {s : State} {code : Byte} (command : s.frame = .command)
    (unknown : Command.ofCode? code = none) : s.takeByte code = { s with frame := .unknown } := by
  simp only [State.takeByte, command, unknown]

theorem State.takeByte_of_unknownFrame {s : State} (frame : s.frame = .unknown) (b : Byte) : s.takeByte b = s := by
  simp only [State.takeByte, frame]

theorem State.sdo_of_unknownFrame {s : State} (frame : s.frame = .unknown) (power : s.powerOn = false) :
    s.sdo = some Result.badCommand.code := by
  simp only [State.sdo, frame, power, Bool.false_eq_true, if_false]

/-- Settles O46: an unknown code leads to the frame `unknown`, which every taken byte keeps and the deselection ends. -/
theorem unknownCommand : Obligations.UnknownCommand := by
  refine ⟨rfl, Command.ofCode?_code, rfl, rfl, Command.ofCode?_eq_none_iff,
    fun code s up unknown => ⟨fun command => ?taken, fun frame => ⟨?sdo, fun b => ?ignored, exec_frameDeselect s⟩⟩⟩
  case taken => rw [exec_slinkByteTaken_of_linkUp up, State.takeByte_of_unknownCode command unknown]
  case sdo => exact State.sdo_of_unknownFrame frame up.2
  case ignored => rw [exec_slinkByteTaken_of_linkUp up, State.takeByte_of_unknownFrame frame]

end Sys2Proof.Machine
end

section
/-! SUPPORT. What a command can change outside the transaction table and the M-tags: it is a chain of small changes,
each of one block (`Change`). A law about the groups, the matchers, the configuration or the log is then shown once for
each kind of change, and holds of every command. -/

namespace Sys2Proof.Machine

/-! ### Moves of a matcher -/

/-- A matcher has moved on: its definition is the same, and it is sound if it was. -/
structure Matcher.MovesTo (m m' : Matcher) : Prop where
  defn : m'.defn = m.defn
  sound : m.Sound → m'.Sound

theorem Matcher.movesTo_refl (m : Matcher) : m.MovesTo m := ⟨rfl, id⟩

theorem Matcher.MovesTo.trans {a b c : Matcher} (h : a.MovesTo b) (k : b.MovesTo c) : a.MovesTo c :=
  ⟨k.defn.trans h.defn, fun sound => k.sound (h.sound sound)⟩

theorem Matcher.restart_movesTo (m : Matcher) : m.MovesTo m.restart :=
  ⟨rfl, fun sound => ⟨Nat.lt_of_le_of_lt (Nat.zero_le _) sound.progress, sound.steps, by simp [Matcher.restart]⟩⟩

theorem Matcher.advance_movesTo (m : Matcher) (now : Time) : m.MovesTo (m.advance now).1 := by
  unfold Matcher.advance
  split
  · next more => exact ⟨rfl, fun sound => ⟨more, sound.steps, by simp⟩⟩
  · exact m.restart_movesTo

theorem Matcher.takeCompletion_movesTo (m : Matcher) (n : Notice) (now : Time) :
    m.MovesTo (m.takeCompletion n now).1 := by
  have fresh : m.MovesTo (if m.progress = 0 then m else m.restart) := by
    split
    · exact m.movesTo_refl
    · exact m.restart_movesTo
  unfold Matcher.takeCompletion
  split
  · exact m.movesTo_refl
  · split
    · exact m.advance_movesTo now
    · dsimp only
      generalize (if m.progress = 0 then m else m.restart) = m' at fresh ⊢
      split
      · exact fresh.trans (m'.advance_movesTo now)
      · exact fresh

/-! ### The changes -/

/-- `s` with the queues, the table, the tags, the lines' timers and the latches of `t`: what a command may change that
no law about the groups, the matchers, the configuration or the log speaks of. -/
def State.trafficFrom (s t : State) : State :=
  { s with
    answers := t.answers
    table := t.table
    deliveries := t.deliveries
    mtags := t.mtags
    onOffer := t.onOffer
    port := t.port
    pulse := t.pulse
    latches := t.latches
    mask := t.mask
    gap := t.gap
    choices := t.choices }

/-- One change that a block of the unit makes. A FROZEN group takes no other state, a matcher moves within its
definition, and the configuration changes only while the lock is clear, to legal values. -/
inductive Change (s : State) : State → Prop
  | traffic (t : State) (h : t = s.trafficFrom t) : Change s t
  | append (e : Event) : Change s (s.appendEvent e)
  | group (g : GroupIndex) (x : Group) (h : s.group g ≠ .frozen) : Change s (s.setGroup g x)
  | matchers (ms : Vector (Option Matcher) 4) (h : ∀ i : MatcherIndex, Option.Rel Matcher.MovesTo (s.matcher i) ms[i]) :
      Change s { s with matchers := ms }
  | mode (m : UnitMode) (h : s.lock = false) : Change s { s with mode := m }
  | lock (h : s.mode = .enforce) : Change s { s with lock := true }
  | timing (t : Timing) (h : s.lock = false) (legal : t.legal = true) : Change s { s with timing := t }
  | region (i : RegionIndex) (x : Option Region) (h : s.lock = false) (legal : ∀ r, x = some r → r.legal = true) :
      Change s (s.setRegion i x)
  | define (i : MatcherIndex) (x : Option Matcher) (h : s.lock = false)
      (legal : ∀ m, x = some m → m.defn.legal = true ∧ m.Sound) : Change s (s.setMatcher i x)

/-- A chain of changes. -/
def Changes (s t : State) : Prop := Relation.ReflTransGen Change s t

theorem Changes.refl {s : State} : Changes s s := Relation.ReflTransGen.refl

theorem Changes.single {s t : State} (h : Change s t) : Changes s t := Relation.ReflTransGen.single h

theorem Changes.trans {s t u : State} (h : Changes s t) (k : Changes t u) : Changes s u := Relation.ReflTransGen.trans h k

theorem Changes.traffic {s t : State} (h : t = s.trafficFrom t) : Changes s t := .single (.traffic t h)

theorem Changes.append {s t : State} (h : Changes s t) (e : Event) : Changes s (t.appendEvent e) :=
  h.trans (.single (.append e))

theorem Changes.latch {s t : State} (h : Changes s t) (c : Cause) : Changes s (t.latch c) := h.trans (.traffic rfl)

theorem Changes.setMatcher {s : State} {i : MatcherIndex} {m m' : Matcher} (h : s.matcher i = some m)
    (moves : m.MovesTo m') : Changes s (s.setMatcher i (some m')) := by
  refine .single (.matchers _ fun j => ?_)
  have read : (s.matchers.set i.val (some m') i.isLt)[j] = (s.setMatcher i (some m')).matcher j := rfl
  rw [read, State.matcher_setMatcher]
  split
  · next same =>
    subst same
    rw [h]
    exact .some moves
  · cases s.matcher j with
    | none => exact .none
    | some x => exact .some x.movesTo_refl

/-! ### The groups -/

variable (s : State)

theorem State.openGroup_changes (g : GroupIndex) (d : BitVec 16) (m : Option MatcherIndex) :
    Changes s (s.openGroup g d m) := by
  unfold State.openGroup
  split
  · next h => exact Changes.append (.single (.group g _ (by simp [h]))) _
  · next h =>
    refine Changes.append ?_ _
    split
    · exact .single (.group g _ (by simp [h]))
    · exact .refl
  · exact Changes.append .refl _

theorem State.closeGroup_changes (g : GroupIndex) : Changes s (s.closeGroup g) := by
  unfold State.closeGroup
  split
  · next h => exact Changes.append (.single (.group g _ (by simp [h]))) _
  · exact .refl
  · exact .refl

theorem State.freezeGroup_changes (g : GroupIndex) (m : Option MatcherIndex) : Changes s (s.freezeGroup g m) := by
  unfold State.freezeGroup
  split
  · exact .refl
  · next h => exact Changes.append (.single (.group g _ (by simp [h]))) _
  · next h => exact Changes.append (.single (.group g _ (by simp [h]))) _

theorem State.expireWindow_changes (g : GroupIndex) : Changes s (s.expireWindow g) := by
  unfold State.expireWindow
  split
  · next due =>
    refine Changes.append (.single (.group g _ fun frozen => ?_)) _
    simp [State.windowDue, frozen] at due
  · exact .refl

/-! ### The matchers -/

theorem State.takeRefusal_changes (i : MatcherIndex) (r : RegionIndex) : Changes s (s.takeRefusal i r) := by
  unfold State.takeRefusal
  split
  · exact .refl
  · next m h =>
    split
    · exact Changes.append (Changes.setMatcher h m.restart_movesTo) _
    · exact .refl

theorem State.expireDeadline_changes (i : MatcherIndex) : Changes s (s.expireDeadline i) := by
  unfold State.expireDeadline
  split
  · exact .refl
  · next m h =>
    split
    · exact Changes.append (Changes.setMatcher h m.restart_movesTo) _
    · exact .refl

theorem State.perform_changes (r : Request) : Changes s (s.perform r) := by
  cases r with
  | append e => exact Changes.append .refl e
  | openGroup g d m => exact s.openGroup_changes g d (some m)
  | freezeGroup g m => exact s.freezeGroup_changes g (some m)
  | startPulse => exact .traffic rfl
  | refusalNotice m i => exact s.takeRefusal_changes m i

theorem State.performList_changes (rs : List Request) : Changes s (rs.foldl State.perform s) := by
  induction rs generalizing s with
  | nil => exact .refl
  | cons r rs ih => exact (s.perform_changes r).trans (ih _)

theorem State.performAll_changes (chains : List (List Request)) : Changes s (s.performAll chains) := by
  unfold State.performAll
  exact (Changes.traffic (t := { s with choices := (interleave chains s.choices).2 }) rfl).trans
    (State.performList_changes _ _)

/-- What the matchers are after a completion notice: each takes it by its own rule (R119). -/
def State.movedMatchers (n : Notice) : Vector (Option Matcher) 4 :=
  s.matchers.map (Option.map (fun m => (m.takeCompletion n s.timeBase).1))

/-- Setting the matchers of a list of indexes, one after another: each index of the list that holds a matcher. -/
theorem State.moveList_matcher (move : Matcher → Matcher × Option Nat × Bool) (l : List MatcherIndex) (u : State)
    (j : MatcherIndex) :
    ((l.filterMap (fun i => (s.matcher i).map (fun m => (i, move m)))).foldl
        (fun u r => u.setMatcher r.1 (some r.2.1)) u).matcher j
      = if j ∈ l then (match s.matcher j with
          | none => u.matcher j
          | some m => some (move m).1) else u.matcher j := by
  induction l generalizing u with
  | nil => simp
  | cons i l ih =>
    cases h : s.matcher i with
    | none =>
      rw [List.filterMap_cons_none (by simp [h]), ih]
      by_cases hj : j = i
      · subst hj; simp [h]
      · simp [hj]
    | some m =>
      rw [List.filterMap_cons_some (b := (i, move m)) (by simp [h]), List.foldl_cons, ih]
      by_cases hj : j = i
      · subst hj; simp [h]
      · have : ¬ i = j := fun e => hj e.symm
        simp [hj, this]

/-- The moves that a completion notice asks for give every matcher its own. -/
theorem State.moveReactions (n : Notice) :
    (s.reactions n).foldl (fun s r => s.setMatcher r.1 (some r.2.1)) s = { s with matchers := s.movedMatchers n } := by
  obtain ⟨u, h⟩ := s.moveMatchers_touches (s.reactions n)
  rw [h]
  refine congrArg (fun ms => { s with matchers := ms }) (Vector.ext fun k hk => ?_)
  have moved := s.moveList_matcher (fun m => m.takeCompletion n s.timeBase) (List.finRange 4) s ⟨k, hk⟩
  rw [show (List.finRange 4).filterMap (fun i => (s.matcher i).map (fun m => (i, m.takeCompletion n s.timeBase)))
    = s.reactions n from rfl, h] at moved
  simp only [List.mem_finRange, if_true, State.matcher, Fin.getElem_fin] at moved
  rw [moved, State.movedMatchers, Vector.getElem_map]
  cases s.matchers[k] <;> rfl

/-- A completion notice: the matchers move, a completion is latched, and the requests are taken. -/
theorem State.giveCompletion_eq (n : Notice) :
    s.giveCompletion n =
      State.performAll ((s.reactions n).map (fun r => completionRequests r.1 r.2.1 n r.2.2.1 r.2.2.2))
        (if (s.reactions n).any (fun r => r.2.2.2) then State.latch .sequence { s with matchers := s.movedMatchers n }
          else { s with matchers := s.movedMatchers n }) := by
  simp only [State.giveCompletion, State.moveReactions]

theorem State.giveCompletion_changes (n : Notice) : Changes s (s.giveCompletion n) := by
  have moved : Changes s { s with matchers := s.movedMatchers n } := by
    refine .single (.matchers _ fun i => ?_)
    simp only [State.movedMatchers, Fin.getElem_fin, Vector.getElem_map]
    change Option.Rel _ s.matchers[i] (Option.map _ s.matchers[i])
    cases s.matchers[i] with
    | none => exact .none
    | some m => exact .some (m.takeCompletion_movesTo n _)
  rw [s.giveCompletion_eq n]
  refine Changes.trans ?_ (State.performAll_changes _ _)
  split
  · exact moved.latch .sequence
  · exact moved

/-! ### The table and the arbiter -/

theorem State.arbitrate_changes : Changes s s.arbitrate := .traffic (by rw [s.arbitrate_touches]; rfl)

theorem State.promoteAndArbitrate_changes : Changes s s.promoteAndArbitrate := by
  obtain ⟨u, h⟩ := s.promoteAndArbitrate_touches
  exact .traffic (by rw [h]; rfl)

theorem State.enter_changes (req : HostRequest) (c : Classification) (v : Bool) (w : Option WordAddr)
    (r : Option Reason) : Changes s (s.enter req c v w r) := .traffic (by rw [s.enter_touches]; rfl)

theorem State.deliver_changes : Changes s s.deliver := by
  unfold State.deliver
  split
  · exact .refl
  · exact (Changes.traffic rfl).trans (State.arbitrate_changes _)

/-! ### The H-port -/

theorem State.answer_changes (req : HostRequest) (status : HostStatus) (d : Word) : Changes s (s.answer req status d) :=
  .traffic rfl

theorem State.refuseAtArrival_changes (req : HostRequest) (status : HostStatus) (e : Event) (i : RegionIndex) :
    Changes s (s.refuseAtArrival req status e i) :=
  (s.answer_changes req status 0).trans (State.performAll_changes _ _)

theorem State.shapeFault_changes (req : HostRequest) (reason : Reason) (i : RegionIndex) :
    Changes s (s.shapeFault req reason i) := by
  unfold State.shapeFault
  split
  · exact (s.answer_changes ..).append _
  · exact s.refuseAtArrival_changes ..

theorem State.classifyRead_changes (req : HostRequest) (i : RegionIndex) (r : Region) :
    Changes s (s.classifyRead req i r) := by
  unfold State.classifyRead
  split
  · exact s.enter_changes ..
  · exact (s.enter_changes ..).append _
  · exact (s.answer_changes ..).append _
  · exact (s.answer_changes ..).append _

theorem State.classifyWrite_changes (req : HostRequest) (i : RegionIndex) (r : Region) :
    Changes s (s.classifyWrite req i r) := by
  unfold State.classifyWrite
  dsimp only
  split
  · exact s.enter_changes ..
  · split
    · exact (s.enter_changes ..).append _
    · exact s.enter_changes ..
  · split
    · exact s.refuseAtArrival_changes ..
    · exact s.refuseAtArrival_changes ..
    · exact (s.enter_changes ..).append _

theorem State.classify_changes (req : HostRequest) : Changes s (s.classify req) := by
  unfold State.classify
  split
  · exact (s.answer_changes ..).append _
  · split
    · exact (s.answer_changes ..).append _
    · split
      · exact s.enter_changes ..
      · split
        · exact s.enter_changes ..
        · next i r _ =>
          unfold State.classifyWatched
          split
          · exact s.shapeFault_changes ..
          · split
            · exact s.classifyRead_changes ..
            · exact s.classifyWrite_changes ..

/-! ### The M-port -/

theorem State.takeOffer_changes : Changes s s.takeOffer := by
  unfold State.takeOffer
  split
  · exact .refl
  · refine Changes.trans (.traffic ?_) (State.arbitrate_changes _)
    split <;> rfl

theorem State.setTag_changes (m : MTag) (e : TagEntry) : Changes s (s.setTag m e) := .traffic rfl

theorem State.complete_changes (h : HTag) (status : HostStatus) (d : Word) :
    Changes s (s.complete h status d).arbitrate := (Changes.traffic rfl).trans (State.arbitrate_changes _)

theorem State.strayResponse_changes (status : MemStatus) : Changes s (s.strayResponse status) :=
  (Changes.refl.latch .memory).append _

theorem State.lateResponse_changes (m : MTag) (o : OrphanTag) (status : MemStatus) (d : Word) :
    Changes s (s.lateResponse m o status d) :=
  (((s.setTag_changes m .free).trans (State.promoteAndArbitrate_changes _)).latch .memory).append _

theorem State.toIssuePending_changes (h : HTag) (note : Option Reason) : Changes s (s.toIssuePending h note) :=
  (Changes.traffic rfl).trans (State.arbitrate_changes _)

theorem State.refuseVerified_changes (t : Txn) (snap : Snapshot) (status : HostStatus) (reason : Reason) (v : Word) :
    Changes s (s.refuseVerified t snap status reason v) :=
  (s.complete_changes t.htag status 0).trans (State.performAll_changes _ _)

theorem State.reachVerdict_changes (t : Txn) (snap : Snapshot) (v : Word) : Changes s (s.reachVerdict t snap v) := by
  unfold State.reachVerdict
  refine Changes.trans
    (.traffic (t := s.updateTxn t.htag (fun t => { t with verifyWord := some v })) rfl) ?_
  dsimp only
  split
  · split
    · exact (State.toIssuePending_changes ..).append _
    · exact State.toIssuePending_changes ..
  · split
    · exact State.refuseVerified_changes ..
    · exact State.refuseVerified_changes ..
    · exact (State.toIssuePending_changes ..).append _

theorem State.verifyFails_changes (t : Txn) (word : WordAddr) (reason : Reason) :
    Changes s (s.verifyFails t word reason) :=
  ((s.complete_changes t.htag .fault 0).latch .memory).trans (State.performAll_changes _ _)

theorem State.forwardFails_changes (t : Txn) (kind : EventKind) : Changes s (s.forwardFails t kind) :=
  ((s.complete_changes t.htag .fault 0).latch .memory).append _

theorem State.forwardCompletes_changes (t : Txn) (d : Word) : Changes s (s.forwardCompletes t d) := by
  unfold State.forwardCompletes
  refine (s.complete_changes t.htag .okay (forwardData t.kind d)).trans ?_
  dsimp only
  split
  · exact State.giveCompletion_changes ..
  · exact .refl

theorem State.activeResponse_changes (m : MTag) (a : ActiveTag) (status : MemStatus) (d : Word) :
    Changes s (s.activeResponse m a status d) := by
  unfold State.activeResponse
  refine (s.setTag_changes m .free).trans ?_
  dsimp only
  split
  · exact State.arbitrate_changes _
  · split
    · split
      · exact State.reachVerdict_changes ..
      · exact State.arbitrate_changes _
      · exact State.arbitrate_changes _
    · exact State.verifyFails_changes ..
    · exact State.forwardCompletes_changes ..
    · exact State.forwardCompletes_changes ..
    · exact State.forwardFails_changes ..
    · exact State.forwardFails_changes ..

theorem State.respond_changes (resp : MemResponse) : Changes s (s.respond resp) := by
  unfold State.respond
  split
  · exact s.strayResponse_changes _
  · exact s.lateResponse_changes ..
  · split
    · exact s.strayResponse_changes _
    · exact s.activeResponse_changes ..

theorem State.expireVerify_changes (m : MTag) : Changes s (s.expireVerify m) := by
  unfold State.expireVerify
  split
  · split
    · split
      · exact (s.setTag_changes ..).trans (State.verifyFails_changes ..)
      · exact s.setTag_changes ..
    · exact .refl
  · exact .refl
  · exact .refl

theorem State.expireForward_changes (m : MTag) : Changes s (s.expireForward m) := by
  unfold State.expireForward
  split
  · split
    · split
      · exact (s.setTag_changes ..).trans (State.forwardFails_changes ..)
      · exact s.setTag_changes ..
    · exact .refl
  · exact .refl
  · exact .refl

theorem State.endMportReset_changes : Changes s s.endMportReset := by
  unfold State.endMportReset
  split
  · exact .refl
  · split
    · have ended : Changes s { s with port := .ready } := .traffic rfl
      exact ((ended.trans (State.arbitrate_changes _)).latch .memory).append _
    · exact .refl

theorem State.startMportReset_changes : Changes s s.startMportReset := by
  unfold State.startMportReset
  exact (Changes.traffic rfl).trans (State.performAll_changes _ _)

/-! ### The effect event of a management command -/

theorem State.acknowledge_changes (c : CauseSet) : Changes s (s.acknowledge c) := by
  refine .traffic ?_
  unfold State.acknowledge
  dsimp only
  rw [State.latchLogAtThreshold_touches]
  split <;> split <;> (try split) <;> rfl

theorem SeqDef.sound_start {d : SeqDef} (legal : d.legal = true) : Matcher.Sound ⟨d, 0, none⟩ := by
  simp only [SeqDef.legal, maxSteps, Bool.and_eq_true, decide_eq_true_eq] at legal
  obtain ⟨⟨⟨least, most⟩, -⟩, -⟩ := legal
  exact ⟨least, of_decide_eq_true most, by simp⟩

end Sys2Proof.Machine
end

section
/-! SUPPORT and PROOFS. Every command but POWER_ON_RESET as a chain of small changes, the link's and the lines' among
them, and the laws that follow for all commands at once: what they keep of the queue and the time (O3), of a FROZEN group
(O39), of the records (O42) and of the configuration under the lock (O50). -/

namespace Sys2Proof.Machine

/-! ### What the images of the link hold is legal -/

theorem Timing.legal_of_decode {l : List Byte} {t : Timing} (h : Timing.decode? l = some t) : t.legal = true := by
  simp only [Timing.decode?, Option.bind_eq_bind, Option.bind_eq_some_iff] at h
  obtain ⟨mode, -, h⟩ := h
  split at h
  · next ok =>
    cases h
    simp only [Bool.and_eq_true] at ok
    exact ok.1.1.1
  · cases h

theorem Region.legal_of_decode {l : List Byte} {r : Region} (h : Region.decode? l = some r) : r.legal = true := by
  simp only [Region.decode?, Option.bind_eq_bind, Option.bind_eq_some_iff] at h
  obtain ⟨_, -, _, -, _, -, _, -, _, -, _, -, h⟩ := h
  split at h
  · next ok =>
    cases h
    simp only [Bool.and_eq_true] at ok
    exact ok.1.1
  · cases h

theorem decodeAction_duration {code group : Byte} {duration : BitVec 16} {g : GroupIndex} {d : BitVec 16}
    (h : decodeAction code group duration = some (.openWindow g d)) : d ≠ 0 := by
  unfold decodeAction at h
  split_ifs at h <;> simp_all

/-- The action of a definition opens no window of duration 0. -/
theorem SeqDef.legal_iff (d : SeqDef) : d.legal = true ↔ 1 ≤ d.steps.length ∧ d.steps.length ≤ 6 ∧ d.gap ≠ 0
    ∧ ∀ g duration, d.action = .openWindow g duration → duration ≠ 0 := by
  unfold SeqDef.legal maxSteps
  simp only [Bool.and_eq_true, decide_eq_true_eq, bne_iff_ne, and_assoc]
  cases d.action <;> simp

/-- A list is read whole where every element is. -/
theorem mapM_eq_some_iff {α β : Type} {f : α → Option β} {l : List α} {r : List β} :
    l.mapM f = some r ↔ l.map f = r.map some := by
  induction l generalizing r with
  | nil => cases r <;> simp
  | cons a l ih =>
    rw [List.mapM_cons]
    cases ha : f a with
    | none => cases r <;> simp [ha]
    | some b => cases r <;> simp [ha, Option.bind_eq_some_iff, ih, and_comm]

/-- When an image holds a definition (Tables 7-3 and 10-6a): its count, gap and reserved byte, its action and its steps,
and zeros in the unused places. -/
theorem SeqDef.decode?_eq_some_iff (l : List Byte) (d : SeqDef) :
    SeqDef.decode? l = some d ↔
      ((byteAt l 0).toNat ≠ 0 ∧ (byteAt l 0).toNat ≤ maxSteps) ∧ (read16 l 1 ≠ 0 ∧ read16 l 1 = d.gap) ∧ byteAt l 7 = 0
      ∧ decodeAction (byteAt l 3) (byteAt l 4) (read16 l 5) = some d.action
      ∧ (List.range (byteAt l 0).toNat).map (fun k => decodeStep l (8 + 10 * k)) = d.steps.map some
      ∧ ∀ k < 10 * (maxSteps - (byteAt l 0).toNat), byteAt l (8 + 10 * (byteAt l 0).toNat + k) = 0 := by
  rw [← mapM_eq_some_iff]
  unfold SeqDef.decode?
  dsimp only
  generalize (byteAt l 0).toNat = n
  by_cases count : n = 0 ∨ maxSteps < n
  · rw [if_pos count]
    simp only [reduceCtorEq, false_iff]
    omega
  by_cases gap : read16 l 1 = 0
  · rw [if_neg count, if_pos gap]
    simp [gap]
  by_cases reserved : byteAt l 7 = 0
  · rw [if_neg count, if_neg gap, if_neg (not_not.mpr reserved)]
    have count : n ≠ 0 ∧ n ≤ maxSteps := by omega
    obtain ⟨steps, g, action⟩ := d
    cases decodeAction (byteAt l 3) (byteAt l 4) (read16 l 5) with
    | none => simp
    | some a =>
      cases (List.range n).mapM (fun k => decodeStep l (8 + 10 * k)) with
      | none => simp
      | some steps =>
        simp only [Option.bind_eq_bind, Option.bind_some, List.all_eq_true, List.mem_range, beq_iff_eq,
          Option.ite_none_right_eq_some, Option.some.injEq, SeqDef.mk.injEq, count, reserved]
        tauto
  · rw [if_neg count, if_neg gap, if_pos reserved]
    exact iff_of_false (by simp) (fun h => reserved h.2.2.1)

theorem SeqDef.legal_of_decode {l : List Byte} {d : SeqDef} (h : SeqDef.decode? l = some d) : d.legal = true := by
  obtain ⟨⟨least, most⟩, ⟨gap, same⟩, -, action, steps, -⟩ := (SeqDef.decode?_eq_some_iff l d).mp h
  have length : (byteAt l 0).toNat = d.steps.length := by simpa using congrArg List.length steps
  unfold maxSteps at most
  refine (SeqDef.legal_iff _).mpr ⟨by omega, by omega, same ▸ gap, fun g duration e => ?_⟩
  rw [e] at action
  exact decodeAction_duration action

/-! ### The effect event of a management command -/

@[simp] theorem Carried.refuse_state (c : Command) (r : Result) (s : State) : (Carried.refuse c r s).state = s := rfl

@[simp] theorem Carried.ok_state (s : State) : (Carried.ok s).state = s := rfl

/-- Every effect event but that of TAKE_EVENT is a chain of changes; under the lock it leaves the configuration. -/
theorem State.carryOut_changes (c : Command) (args : List Byte) (s : State) (h : c ≠ .takeEvent) :
    Changes s (s.carryOut c args).state := by
  unfold State.carryOut
  split
  · exact .refl
  next unlocked =>
  have unlocked : c.allowedUnderLock = false → s.lock = false := by
    intro hc
    simpa [hc] using unlocked
  cases c with
  | takeEvent => exact absurd rfl h
  | readStatus => exact .refl
  | fetchTiming => exact .refl
  | setMode =>
    dsimp only [carrySetMode]
    split
    · exact .single (.mode _ (unlocked rfl))
    · split
      · exact .single (.mode _ (unlocked rfl))
      · exact .refl
  | lockConfig =>
    dsimp only [carryLockConfig]
    split
    · exact .refl
    · next enforce => exact .single (.lock enforce)
  | setTiming =>
    dsimp only [carrySetTiming]
    split
    · exact .refl
    · next image => exact .single (.timing _ (unlocked rfl) (Timing.legal_of_decode image))
  | loadRegion =>
    dsimp only [carryLoadRegion]
    split
    · exact .refl
    · next i _ =>
      split
      · exact .refl
      · next r image =>
        refine .single (Change.region i (some r) (unlocked rfl) fun r e => ?_)
        cases e
        exact Region.legal_of_decode image
  | fetchRegion =>
    dsimp only [carryFetchRegion]
    split <;> exact .refl
  | dropRegion =>
    dsimp only [carryDropRegion]
    split
    · exact .refl
    · next i _ => exact .single (Change.region i none (unlocked rfl) (fun _ e => nomatch e))
  | loadSequence =>
    dsimp only [carryLoadSequence]
    split
    · exact .refl
    · split
      · exact .refl
      · next image =>
        refine .single (.define _ _ (unlocked rfl) fun m e => ?_)
        cases e
        have legal := SeqDef.legal_of_decode image
        exact ⟨legal, SeqDef.sound_start legal⟩
  | fetchSequence =>
    dsimp only [carryFetchSequence]
    split <;> exact .refl
  | dropSequence =>
    dsimp only [carryDropSequence]
    split
    · exact .refl
    · next i _ => exact .single (Change.define i none (unlocked rfl) (fun _ e => nomatch e))
  | openWindow =>
    dsimp only [carryOpenWindow]
    split
    · exact .refl
    · split
      · exact .refl
      · exact s.openGroup_changes _ _ none
  | closeWindow =>
    dsimp only [carryCloseWindow]
    split
    · exact .refl
    · exact s.closeGroup_changes _
  | freezeGroup =>
    dsimp only [carryFreezeGroup]
    split
    · exact .refl
    · exact s.freezeGroup_changes _ none
  | ackAttn =>
    dsimp only [carryAckAttn]
    split
    · exact .refl
    · exact s.acknowledge_changes _
  | setAttnMask =>
    dsimp only [carrySetAttnMask]
    split
    · exact .refl
    · exact .traffic rfl
  | resetMport =>
    dsimp only [carryResetMport]
    split
    · exact s.startMportReset_changes
    · exact .refl

/-- The effect event of TAKE_EVENT names the head, or finds the log empty. -/
theorem State.carryOut_takeEvent (args : List Byte) (s : State) :
    s.carryOut .takeEvent args = carryTakeEvent s := by
  unfold State.carryOut
  rw [if_neg (by simp [Command.allowedUnderLock])]

theorem carryTakeEvent_cases (s : State) :
    (s.records = [] ∧ carryTakeEvent s = ⟨.empty, List.replicate 32 0, s⟩)
    ∨ ∃ r rest, s.records = r :: rest ∧ carryTakeEvent s = ⟨.done, r.encode, s.nameHead⟩ := by
  unfold carryTakeEvent
  split
  · next h => exact .inl ⟨h, rfl⟩
  · next r rest h => exact .inr ⟨r, rest, h, rfl⟩

/-! ### Changes of the link and the lines -/

/-- One change that a command makes: one of a block, the link's own, or one of those that only some commands make: `resets`
says whether the lines of the resets may move, `removal` whether the head of the log may leave. -/
inductive Effect (removal resets : Prop) (s : State) : State → Prop
  | block {t : State} (h : Change s t) : Effect removal resets s t
  | link (f : Frame) (b : Bool) : Effect removal resets s { s with frame := f, taking := b }
  | close : Effect removal resets s { s with openUntil := none }
  | lines (r p : Bool) (h : resets) : Effect removal resets s { s with rstAsserted := r, powerOn := p }
  | closeGroups : Effect removal resets s { s with groups := closeOpenGroups s.groups }
  | remove (h : removal) : Effect removal resets s s.removeHead

/-- A chain of such changes. -/
def Effects (removal resets : Prop) (s t : State) : Prop := Relation.ReflTransGen (Effect removal resets) s t

theorem Effects.refl {p q : Prop} {s : State} : Effects p q s s := Relation.ReflTransGen.refl

theorem Effects.single {p q : Prop} {s t : State} (h : Effect p q s t) : Effects p q s t := Relation.ReflTransGen.single h

theorem Effects.trans {p q : Prop} {s t u : State} (h : Effects p q s t) (k : Effects p q t u) : Effects p q s u :=
  Relation.ReflTransGen.trans h k

theorem Changes.effects {p q : Prop} {s t : State} (h : Changes s t) : Effects p q s t :=
  Relation.ReflTransGen.mono (fun _ _ => Effect.block) _ _ h

theorem Effects.link {p q : Prop} {s t : State} (h : Effects p q s t) (f : Frame) (b : Bool) :
    Effects p q s { t with frame := f, taking := b } := h.trans (.single (.link f b))

theorem State.nameHead_effects (p q : Prop) (s : State) : Effects p q s s.nameHead := by
  unfold State.nameHead
  split
  · exact (Effects.single .close).link s.frame true
  · exact Effects.refl.link s.frame true

theorem State.effectEvent_effects (p q : Prop) (c : Command) (args : List Byte) (s : State) :
    Effects p q s (s.effectEvent c args) := by
  refine Effects.link (t := (s.carryOut c args).state) ?_ _ (s.carryOut c args).state.taking
  by_cases h : c = .takeEvent
  · subst h
    rw [s.carryOut_takeEvent]
    obtain ⟨-, h⟩ | ⟨r, rest, -, h⟩ := carryTakeEvent_cases s <;> rw [h]
    · exact .refl
    · exact s.nameHead_effects p q
  · exact (s.carryOut_changes c args h).effects

theorem State.newFrame_effects (p q : Prop) (s : State) : Effects p q s s.newFrame :=
  (Effects.refl.link .idle false).link (if s.slinkTakes then .command else .ignored) false

theorem State.runFrame_effects (p q : Prop) (c : Command) (args : List Byte) (s : State) :
    Effects p q s (s.runFrame c args) := by
  unfold State.runFrame
  split
  · exact (s.newFrame_effects p q).trans (State.effectEvent_effects p q c args _)
  · exact .refl

theorem State.select_effects (p q : Prop) (s : State) : Effects p q s s.select := by
  unfold State.select
  split
  · exact Effects.refl.link _ s.taking
  · exact .refl

/-- A byte removes the head of the log only as the last reply byte of a TAKE_EVENT that is DONE. -/
theorem State.takeByte_effects (p q : Prop) (b : Byte) (s : State)
    (h : ∀ k bytes, s.frame = .output .takeEvent (.reply k) .done bytes → bytes.length ≤ k + 1 → p) :
    Effects p q s (s.takeByte b) := by
  unfold State.takeByte
  split
  · exact .refl
  · exact .refl
  · exact .refl
  · split
    · exact Effects.refl.link _ s.taking
    · split
      · exact s.effectEvent_effects p q _ _
      · exact Effects.refl.link _ s.taking
  · split
    · exact Effects.refl.link _ s.taking
    · exact s.effectEvent_effects p q _ _
  · next c phase r bytes frame =>
    split
    · exact Effects.refl.link _ s.taking
    · exact Effects.refl.link _ s.taking
    · next k =>
      split
      · exact Effects.refl.link _ s.taking
      · next last =>
        unfold State.finishReply
        dsimp only
        split
        · next take =>
          obtain ⟨rfl, rfl⟩ := take
          exact (Effects.single (.remove (h k bytes frame (by omega)))).link _ s.removeHead.taking
        · exact Effects.refl.link _ s.taking
    · exact .refl

theorem State.lineReset_effects (p q : Prop) (resets : q) (s : State) : Effects p q s s.lineReset := by
  have restarted : Changes s { s with matchers := restartMatchers s.matchers } := by
    refine .single (.matchers _ fun i => ?_)
    simp only [restartMatchers, Fin.getElem_fin, Vector.getElem_map]
    change Option.Rel _ s.matchers[i] (Option.map _ s.matchers[i])
    cases s.matchers[i] with
    | none => exact .none
    | some m => exact .some m.restart_movesTo
  have cleared : Changes s
      { s with
        matchers := restartMatchers s.matchers, answers := [], table := [], deliveries := [],
        mtags := Vector.replicate 8 .free, onOffer := none, port := .ready, gap := none } := restarted.trans (.traffic rfl)
  refine (((cleared.effects.trans (.single .closeGroups)).trans (.single .close)).trans
    (.single (.lines true s.powerOn resets))).link (if s.frame = .idle then .idle else .ignored) false

/-- The removal event of a TAKE_EVENT: its row, or the byte that clocks out the last reply byte (R143). -/
def RemovalEvent (c : Instr) (s : State) : Prop :=
  c = .takeEventRemoval ∨ ∃ b k bytes, c = .slinkByteTaken b
    ∧ s.frame = .output .takeEvent (.reply k) .done bytes ∧ bytes.length ≤ k + 1

/-- The rows of the resets that move the lines, but for POWER_ON_RESET. -/
def ResetRow (c : Instr) : Prop := c = .lineResetAssert ∨ c = .lineResetRelease ∨ c = .powerOnResetEnd

/-- Every command but POWER_ON_RESET is a chain of changes, and only a removal event removes a record and only a reset's row
moves the lines. -/
theorem exec_effects {c : Instr} {s t : State} (h : exec c s = .next t) (power : c ≠ .powerOnReset) :
    Effects (RemovalEvent c s) (ResetRow c) s t := by
  cases c with
  | powerOnReset => exact absurd rfl power
  | arrival req =>
    cases h
    split
    · exact (s.classify_changes req).effects
    · exact .refl
  | answerTaken => cases h; exact (Changes.traffic rfl).effects
  | delivery => cases h; exact s.deliver_changes.effects
  | mportRequestTaken => cases h; exact s.takeOffer_changes.effects
  | mportResponseTaken resp =>
    cases h
    split
    · exact (s.respond_changes resp).effects
    · exact .refl
  | verifyLimitExpiry m => cases h; exact (s.expireVerify_changes m).effects
  | forwardLimitExpiry m => cases h; exact (s.expireForward_changes m).effects
  | mportResetEnd => cases h; exact s.endMportReset_changes.effects
  | readStatus => cases h; exact s.runFrame_effects _ _ _ _
  | setMode mode => cases h; exact s.runFrame_effects _ _ _ _
  | lockConfig => cases h; exact s.runFrame_effects _ _ _ _
  | setTiming image => cases h; exact s.runFrame_effects _ _ _ _
  | fetchTiming => cases h; exact s.runFrame_effects _ _ _ _
  | loadRegion index image => cases h; exact s.runFrame_effects _ _ _ _
  | fetchRegion index => cases h; exact s.runFrame_effects _ _ _ _
  | dropRegion index => cases h; exact s.runFrame_effects _ _ _ _
  | loadSequence index image => cases h; exact s.runFrame_effects _ _ _ _
  | fetchSequence index => cases h; exact s.runFrame_effects _ _ _ _
  | dropSequence index => cases h; exact s.runFrame_effects _ _ _ _
  | openWindow group d => cases h; exact s.runFrame_effects _ _ _ _
  | closeWindow group => cases h; exact s.runFrame_effects _ _ _ _
  | freezeGroup group => cases h; exact s.runFrame_effects _ _ _ _
  | takeEvent => cases h; exact s.runFrame_effects _ _ _ _
  | ackAttn causes => cases h; exact s.runFrame_effects _ _ _ _
  | setAttnMask causes => cases h; exact s.runFrame_effects _ _ _ _
  | resetMport => cases h; exact s.runFrame_effects _ _ _ _
  | takeEventRemoval =>
    cases h
    split
    · split
      · unfold State.finishReply
        dsimp only
        rw [if_pos ⟨rfl, rfl⟩]
        exact (Effects.single (.remove (.inl rfl))).link _ s.removeHead.taking
      · exact .refl
    · exact .refl
  | badCommand code =>
    cases h
    split
    · next up =>
      refine (s.newFrame_effects _ _).trans (State.takeByte_effects _ _ code _ fun k bytes frame => ?_)
      have command : s.newFrame.frame = .command := by
        change (if s.slinkTakes then Frame.command else .ignored) = .command
        rw [if_pos up]
      rw [command] at frame
      cases frame
    · exact .refl
  | frameDeselect => cases h; exact Effects.refl.link _ _
  | windowExpiry g => cases h; exact (s.expireWindow_changes g).effects
  | deadlineExpiry i => cases h; exact (s.expireDeadline_changes i).effects
  | pulseEnd =>
    cases h
    split
    · exact (Changes.traffic rfl).effects
    · exact .refl
  | repulseGapEnd =>
    cases h
    split
    · exact (Changes.traffic rfl).effects
    · exact .refl
  | coalescingClose =>
    cases h
    split
    · exact .single .close
    · exact .refl
  | lineResetAssert =>
    cases h
    split
    · exact .refl
    · split
      · exact .single (.lines true s.powerOn (.inl rfl))
      · exact State.lineReset_effects _ _ (.inl rfl) s
  | lineResetRelease =>
    cases h
    split
    · exact .refl
    · split
      · exact .single (.lines false s.powerOn (.inr (.inl rfl)))
      · exact (Effects.single (.lines false s.powerOn (.inr (.inl rfl)))).trans (Changes.refl.append _).effects
  | selectPeriodBegin => cases h; exact s.select_effects _ _
  | slinkByteTaken b =>
    cases h
    split
    · exact s.takeByte_effects _ _ b fun k bytes frame last => .inr ⟨b, k, bytes, rfl, frame, last⟩
    · exact .refl
  | powerOnResetEnd =>
    cases h
    split
    · dsimp only
      split
      · exact (Effects.single (.lines s.rstAsserted false (.inr (.inr rfl)))).trans (State.lineReset_effects _ _ (.inr (.inr rfl)) _)
      · exact .single (.lines s.rstAsserted false (.inr (.inr rfl)))
    · exact .refl

end Sys2Proof.Machine
end

section
/-! SUPPORT and PROOFS. The laws that hold of every command because they hold of each kind of change: the queue and the
time base (O3), a FROZEN group (O39), the records' places (O42), the configuration under the lock (O50) and the soundness
of the configuration and the matchers (O57). -/

namespace Sys2Proof.Machine

/-- A law that each change keeps is kept by a chain of changes. -/
theorem Effects.keep {p q : Prop} {law : State → Prop} {s t : State} (h : Effects p q s t)
    (step : ∀ u v, Effect p q u v → law u → law v) (start : law s) : law t := by
  induction h with
  | refl => exact start
  | tail _ last ih => exact step _ _ last ih

/-! ### The removal event of a TAKE_EVENT -/

/-- The removal touches the log, the latches and the taking mark alone. -/
theorem State.removeHead_touches (s : State) : s.removeHead = { s.logFrom s.removeHead with taking := false } := by
  unfold State.removeHead State.reportLosses
  split
  · rfl
  · rw [State.pushRecord_touches]
    rfl

/-! ### The queue and the time base -/

theorem Effect.keepsQueue {p q : Prop} {u v : State} (h : Effect p q u v) :
    v.pending = u.pending ∧ v.timeBase = u.timeBase := by
  cases h with
  | block h =>
    cases h with
    | traffic t h => rw [h]; exact ⟨rfl, rfl⟩
    | append e => exact ⟨u.appendEvent_pending e, u.appendEvent_timeBase e⟩
    | _ => exact ⟨rfl, rfl⟩
  | remove _ => rw [u.removeHead_touches]; exact ⟨rfl, rfl⟩
  | _ => exact ⟨rfl, rfl⟩

/-- Settles O1: the step reads the queue, and the command runs on its rest. -/
theorem stepRunsFrontCommand : Obligations.StepRunsFrontCommand := fun _ _ _ => rfl

/-- No command ends in a fault or a refusal. -/
theorem exec_completes (c : Instr) (s : State) : ∃ t, exec c s = .next t := by
  cases c <;> exact ⟨_, rfl⟩

/-- Settles O3: no change of a command touches the queue or the time base; POWER_ON_RESET resets the time base alone. -/
theorem commandsKeepQueueAndTime : Obligations.CommandsKeepQueueAndTime := by
  intro c s
  obtain ⟨t, h⟩ := exec_completes c s
  by_cases power : c = .powerOnReset
  · subst power
    cases h
    exact ⟨_, rfl, rfl, fun other => absurd rfl other⟩
  · obtain ⟨queue, time⟩ := (exec_effects h power).keep (law := fun u => u.pending = s.pending ∧ u.timeBase = s.timeBase)
      (fun u v step law => ⟨step.keepsQueue.1.trans law.1, step.keepsQueue.2.trans law.2⟩) ⟨rfl, rfl⟩
    exact ⟨t, h, queue, fun _ => time⟩

/-! ### A FROZEN group -/

theorem closeOpenGroups_get (groups : Vector Group 4) (g : GroupIndex) :
    (closeOpenGroups groups)[g] = match groups[g] with
      | .opened _ => .closed
      | .closed => .closed
      | .frozen => .frozen := by
  simp only [closeOpenGroups, Fin.getElem_fin, Vector.getElem_map] <;> rfl

theorem Effect.keepsFrozen {p q : Prop} {u v : State} {g : GroupIndex} (h : Effect p q u v) (frozen : u.group g = .frozen) :
    v.group g = .frozen := by
  cases h with
  | block h =>
    cases h with
    | traffic t h => rw [h]; exact frozen
    | append e => simpa only [State.group, State.appendEvent_groups] using frozen
    | group g' x open_ =>
      rw [State.group_setGroup, if_neg (fun same : g' = g => open_ (same ▸ frozen))]
      exact frozen
    | _ => exact frozen
  | closeGroups =>
    change (closeOpenGroups u.groups)[g] = .frozen
    rw [closeOpenGroups_get, show u.groups[g] = .frozen from frozen]
  | remove _ => rw [u.removeHead_touches]; exact frozen
  | _ => exact frozen

/-- Settles O39: a group request finds the group FROZEN and leaves it so, and so does a line reset. -/
theorem frozenGroupStaysFrozen : Obligations.FrozenGroupStaysFrozen := by
  intro c s t g power frozen h
  exact (exec_effects h power).keep (law := fun u => u.group g = .frozen) (fun _ _ => Effect.keepsFrozen) frozen

/-! ### The configuration under the lock -/

/-- The lock is set and the configuration is that of `s` (R164). -/
structure LockedLike (s u : State) : Prop where
  lock : u.lock = true
  mode : u.mode = s.mode
  timing : u.timing = s.timing
  regions : u.regions = s.regions
  definitions : ∀ i, (u.matcher i).map Matcher.defn = (s.matcher i).map Matcher.defn

theorem Effect.keepsLocked {p q : Prop} {s u v : State} (h : Effect p q u v) (law : LockedLike s u) : LockedLike s v := by
  obtain ⟨lock, mode, timing, regions, definitions⟩ := law
  have locked : u.lock = false → LockedLike s v := fun clear => absurd (lock.symm.trans clear) (by decide)
  cases h with
  | block h =>
    cases h with
    | traffic t h => rw [h]; exact ⟨lock, mode, timing, regions, definitions⟩
    | append e =>
      refine ⟨?_, ?_, ?_, ?_, fun i => ?_⟩
      · rwa [u.appendEvent_lock]
      · rwa [u.appendEvent_mode]
      · rwa [u.appendEvent_timing]
      · rwa [u.appendEvent_regions]
      · simpa only [State.matcher, u.appendEvent_matchers] using definitions i
    | group g x _ => exact ⟨lock, mode, timing, regions, definitions⟩
    | matchers ms moves =>
      refine ⟨lock, mode, timing, regions, fun i => ?_⟩
      rw [← definitions i]
      change ms[i].map Matcher.defn = (u.matcher i).map Matcher.defn
      have move := moves i
      revert move
      generalize u.matcher i = before
      generalize ms[i] = after
      rintro (move | _)
      · exact congrArg some (Matcher.MovesTo.defn ‹_›)
      · rfl
    | lock _ => exact ⟨rfl, mode, timing, regions, definitions⟩
    | mode _ clear => exact locked clear
    | timing _ clear _ => exact locked clear
    | region _ _ clear _ => exact locked clear
    | define _ _ clear _ => exact locked clear
  | remove _ =>
    rw [u.removeHead_touches]
    exact ⟨lock, mode, timing, regions, definitions⟩
  | _ => exact ⟨lock, mode, timing, regions, definitions⟩

/-- Settles O50: the changes of the configuration ask for a clear lock, and no change clears the lock. -/
theorem lockFixesTheConfiguration : Obligations.LockFixesTheConfiguration := by
  intro c s t power lock h
  obtain ⟨lock, mode, timing, regions, definitions⟩ := (exec_effects h power).keep (law := LockedLike s)
    (fun _ _ => Effect.keepsLocked) ⟨lock, rfl, rfl, rfl, fun _ => rfl⟩
  exact ⟨lock, mode, timing, regions, definitions⟩

/-! ### The soundness of the configuration and the matchers -/

/-- The laws of the configuration and the matchers read the settings, the tables and the lock alone. -/
theorem configuration_congr {s t : State} (h : ConfigSound s ∧ MatchersSound s) (timing : t.timing = s.timing)
    (regions : t.regions = s.regions) (matchers : t.matchers = s.matchers) (lock : t.lock = s.lock)
    (mode : t.mode = s.mode) : ConfigSound t ∧ MatchersSound t := by
  obtain ⟨⟨legalTiming, legalRegions, legalDefinitions, lockMode⟩, sound⟩ := h
  refine ⟨⟨by rwa [timing], fun i r => ?_, fun i m => ?_, by rwa [lock, mode]⟩, fun i m => ?_⟩
  · simpa only [State.region, regions] using legalRegions i r
  · simpa only [State.matcher, matchers] using legalDefinitions i m
  · simpa only [State.matcher, matchers] using sound i m

theorem Effect.keepsConfiguration {p q : Prop} {u v : State} (h : Effect p q u v) (law : ConfigSound u ∧ MatchersSound u) :
    ConfigSound v ∧ MatchersSound v := by
  have same := configuration_congr law (t := v)
  obtain ⟨⟨timing, regions, definitions, lockMode⟩, sound⟩ := law
  cases h with
  | block h =>
    cases h with
    | traffic t h => rw [h] at same ⊢; exact same rfl rfl rfl rfl rfl
    | append e => exact same (by simp) (by simp) (by simp) (by simp) (by simp)
    | group g x _ => exact same rfl rfl rfl rfl rfl
    | matchers ms moves =>
      have origin : ∀ (i : MatcherIndex) m', ms[i] = some m' → ∃ m, u.matcher i = some m ∧ m.MovesTo m' := by
        intro i m' h
        have move := moves i
        rw [h] at move
        generalize u.matcher i = before at move
        cases move with
        | some move => exact ⟨_, rfl, move⟩
      refine ⟨⟨timing, regions, fun i m' h => ?_, lockMode⟩, fun i m' h => ?_⟩
      · obtain ⟨m, before, move⟩ := origin i m' h
        rw [move.defn]
        exact definitions i m before
      · obtain ⟨m, before, move⟩ := origin i m' h
        exact move.sound (sound i m before)
    | lock enforce => exact ⟨⟨timing, regions, definitions, fun _ => enforce⟩, sound⟩
    | mode m clear =>
      exact ⟨⟨timing, regions, definitions, fun set => absurd (clear.symm.trans set) (by decide)⟩, sound⟩
    | timing t _ legal => exact ⟨⟨legal, regions, definitions, lockMode⟩, sound⟩
    | region i x _ legal =>
      refine ⟨⟨timing, fun j r h => ?_, definitions, lockMode⟩, sound⟩
      rw [State.region_setRegion] at h
      split at h
      · exact legal r h
      · exact regions j r h
    | define i x _ legal =>
      refine ⟨⟨timing, regions, fun j m h => ?_, lockMode⟩, fun j m h => ?_⟩ <;>
        rw [State.matcher_setMatcher] at h <;> split at h
      · exact (legal m h).1
      · exact definitions j m h
      · exact (legal m h).2
      · exact sound j m h
  | remove _ => rw [u.removeHead_touches] at same ⊢; exact same rfl rfl rfl rfl rfl
  | _ => exact same rfl rfl rfl rfl rfl

/-- A tick moves the queue, the time base and the count of choices alone. -/
theorem State.tick_touches (s : State) :
    ∃ u : State, s.tick = { s with pending := u.pending, timeBase := u.timeBase, choices := u.choices } := by
  refine ⟨s.tick, ?_⟩
  unfold State.tick
  split
  · unfold State.advanceTime
    split <;> rfl
  · rfl

/-- A step runs a command, or ticks. -/
theorem step_cases {s t : State} (h : step s = .next t) :
    (s.pending = [] ∧ t = s.tick) ∨ ∃ c rest, s.pending = c :: rest ∧ exec c { s with pending := rest } = .next t := by
  unfold step at h
  split at h
  · next empty => cases h; exact .inl ⟨empty, rfl⟩
  · next c rest queue => exact .inr ⟨c, rest, queue, h⟩

theorem configuration_reset : ConfigSound State.reset ∧ MatchersSound State.reset := by
  have noRegion : ∀ i, State.reset.region i = none := by decide
  have noMatcher : ∀ i, State.reset.matcher i = none := by decide
  have undefined : ∀ {law : Matcher → Prop} i m, State.reset.matcher i = some m → law m :=
    fun i m h => nomatch (noMatcher i).symm.trans h
  exact ⟨⟨rfl, fun i r h => (nomatch (noRegion i).symm.trans h), undefined, fun h => nomatch h⟩, fun i m h => undefined i m h⟩

/-- Settles O57: what is loaded is legal, and a matcher moves within its definition. -/
theorem configurationStaysSound : Obligations.ConfigurationStaysSound := by
  intro s t config matchers h
  obtain ⟨-, rfl⟩ | ⟨c, rest, -, h⟩ := step_cases h
  · obtain ⟨u, h⟩ := s.tick_touches
    rw [h]
    exact configuration_congr ⟨config, matchers⟩ rfl rfl rfl rfl rfl
  · have start := configuration_congr ⟨config, matchers⟩ (t := { s with pending := rest }) rfl rfl rfl rfl rfl
    by_cases power : c = .powerOnReset
    · subst power
      cases h
      exact configuration_congr configuration_reset rfl rfl rfl rfl rfl
    · exact (exec_effects h power).keep (law := fun u => ConfigSound u ∧ MatchersSound u)
        (fun _ _ => Effect.keepsConfiguration) start

/-! ### The records' places -/

theorem mapLast_length {α : Type} (f : α → α) : ∀ l : List α, (mapLast f l).length = l.length
  | [] => rfl
  | [_] => rfl
  | _ :: y :: rest => congrArg (· + 1) (mapLast_length f (y :: rest))

theorem mapLast_get {α : Type} (f : α → α) : ∀ (l : List α) (i : Nat),
    (mapLast f l)[i]? = if i + 1 = l.length then l[i]?.map f else l[i]?
  | [], i => by simp [mapLast]
  | [x], 0 => rfl
  | [x], i + 1 => by simp [mapLast]
  | x :: y :: rest, 0 => by simp [mapLast]
  | x :: y :: rest, i + 1 => by
    simp only [mapLast, List.getElem?_cons_succ, mapLast_get f (y :: rest) i, List.length_cons, Nat.add_right_cancel_iff]

theorem mapLast_append {α : Type} (f : α → α) (x : α) : ∀ l : List α, mapLast f (l ++ [x]) = l ++ [f x]
  | [] => rfl
  | [_] => rfl
  | y :: z :: rest => congrArg (y :: ·) (mapLast_append f x (z :: rest))

theorem State.pushRecord_records (e : Event) (a b : Time) (s : State) :
    (s.pushRecord e a b).records = s.records ++ [⟨s.nextSeq, a, b, 1, e⟩] := by
  unfold State.pushRecord
  rw [State.latchLogAtThreshold_touches]

/-- An append request changes the newest record, adds one, or leaves all as they are. -/
theorem State.appendEvent_records (e : Event) (s : State) :
    (s.appendEvent e).records = mapLast (fun r => r.coalesce e s.timeBase) s.records
    ∨ (∃ r, (s.appendEvent e).records = s.records ++ [r]) ∨ (s.appendEvent e).records = s.records := by
  obtain ⟨-, h⟩ | ⟨-, -, h⟩ | ⟨-, -, h⟩ := s.appendEvent_cases e <;> rw [h]
  · exact .inl rfl
  · exact .inr (.inl ⟨_, s.pushRecord_records ..⟩)
  · exact .inr (.inr rfl)

/-- What coalescing may not touch of a record: its number, its first time and the fields that name its source (R139). -/
structure Record.SameSource (r r' : Record) : Prop where
  seq : r'.seq = r.seq
  firstTime : r'.firstTime = r.firstTime
  event : { r'.event with access := none, attempted := none, reference := none }
    = { r.event with access := none, attempted := none, reference := none }

theorem Record.SameSource.refl (r : Record) : r.SameSource r := ⟨rfl, rfl, rfl⟩

theorem Record.SameSource.trans {a b c : Record} (h : a.SameSource b) (k : b.SameSource c) : a.SameSource c :=
  ⟨k.seq.trans h.seq, k.firstTime.trans h.firstTime, k.event.trans h.event⟩

theorem Record.sameSource_coalesce (r : Record) (e : Event) (now : Time) : r.SameSource (r.coalesce e now) :=
  ⟨rfl, rfl, rfl⟩

/-- Every record of the first list stands in the second, in its place, and all but the newest as they are. -/
structure RecordsKept (l l' : List Record) : Prop where
  length : l.length ≤ l'.length
  kept : ∀ i r, l[i]? = some r → ∃ r', l'[i]? = some r' ∧ r.SameSource r' ∧ (i + 1 < l.length → r' = r)

theorem RecordsKept.refl (l : List Record) : RecordsKept l l :=
  ⟨Nat.le_refl _, fun _ r h => ⟨r, h, .refl r, fun _ => rfl⟩⟩

theorem RecordsKept.trans {a b c : List Record} (h : RecordsKept a b) (k : RecordsKept b c) : RecordsKept a c := by
  refine ⟨Nat.le_trans h.length k.length, fun i r hr => ?_⟩
  obtain ⟨r', hr', same, old⟩ := h.kept i r hr
  obtain ⟨r'', hr'', same', old'⟩ := k.kept i r' hr'
  have length := h.length
  exact ⟨r'', hr'', same.trans same', fun before => (old' (by omega)).trans (old before)⟩

theorem State.appendEvent_recordsKept (e : Event) (s : State) : RecordsKept s.records (s.appendEvent e).records := by
  obtain h | ⟨x, h⟩ | h := s.appendEvent_records e <;> rw [h]
  · refine ⟨Nat.le_of_eq (mapLast_length _ _).symm, fun i r hr => ?_⟩
    rw [mapLast_get]
    split
    · next newest =>
      exact ⟨r.coalesce e s.timeBase, by rw [hr]; rfl, r.sameSource_coalesce e _, fun before => by omega⟩
    · exact ⟨r, hr, .refl r, fun _ => rfl⟩
  · refine ⟨by simp, fun i r hr => ⟨r, ?_, .refl r, fun _ => rfl⟩⟩
    rw [List.getElem?_append_left (List.getElem?_eq_some_iff.mp hr).1, hr]
  · exact .refl _

theorem Effect.keepsRecords {q : Prop} {u v : State} (h : Effect False q u v) : RecordsKept u.records v.records := by
  cases h with
  | block h =>
    cases h with
    | traffic t h => rw [h]; exact .refl _
    | append e => exact u.appendEvent_recordsKept e
    | _ => exact .refl _
  | remove never => exact never.elim
  | _ => exact .refl _

/-- Settles O42: but for a removal event the log changes by append requests, and each keeps the records in place. -/
theorem recordsKeepTheirPlace : Obligations.RecordsKeepTheirPlace := by
  intro c s t h power row byte i r hr
  have noRemoval : RemovalEvent c s → False := by
    rintro (removal | ⟨b, k, bytes, sent, frame, last⟩)
    · exact row removal
    · exact absurd (byte b k bytes sent frame) (by omega)
  have effects : Effects False (ResetRow c) s t := by
    have h := exec_effects h power
    rwa [eq_false noRemoval] at h
  obtain ⟨r', hr', same, old⟩ := (effects.keep (law := fun u => RecordsKept s.records u.records)
    (fun _ _ step kept => kept.trans step.keepsRecords) (.refl _)).kept i r hr
  exact ⟨r', hr', same.seq, same.firstTime, same.event, old⟩

end Sys2Proof.Machine
end

section
/-! SUPPORT and PROOFS. The event log of chapter 8: the three fates of an append request (O40), and the laws of the log,
which every step keeps (O43). -/

namespace Sys2Proof.Machine

/-! ### The fates of an append request -/

theorem EventKind.class_access_iff (kind : EventKind) : kind.class = .access ↔
    kind ∈ [EventKind.writeRefused, .writeNoted, .readRefused, .readSubstituted, .readNoted, .shapeFault, .malformed,
      .tagClash] := by
  cases kind <;> decide

/-- An append request coalesces where the newest record is open and holds the same values (R139). -/
theorem State.coalesces_iff (s : State) (e : Event) : s.coalesces e = true ↔ ∃ r, MayCoalesce s e r := by
  unfold State.coalesces State.openRecord? MayCoalesce Event.sameSource
  cases s.openUntil with
  | none => simp
  | some until_ =>
    simp only [Option.isSome_some, if_true, true_and, Bool.and_eq_true, beq_iff_eq, Option.any_eq_true, and_assoc]
    constructor
    · rintro ⟨access, r, newest, kind, reason, region, word, way⟩
      exact ⟨r, access, newest, kind.symm, reason.symm, region.symm, word.symm, way.symm⟩
    · rintro ⟨r, access, newest, kind, reason, region, word, way⟩
      exact ⟨access, r, newest, kind.symm, reason.symm, region.symm, word.symm, way.symm⟩

theorem State.coalesces_eq_false {s : State} {e : Event} (never : ∀ r, ¬ MayCoalesce s e r) : s.coalesces e = false :=
  Bool.eq_false_iff.mpr fun h => (s.coalesces_iff e).mp h |>.elim never

theorem State.appendEvent_of_coalesces {s : State} {e : Event} (h : s.coalesces e = true) :
    s.appendEvent e = s.coalesceNewest e := by
  unfold State.appendEvent
  rw [if_pos h]

theorem State.appendEvent_of_room {s : State} {e : Event} (h : s.coalesces e = false) (room : s.records.length < 16) :
    s.appendEvent e = s.pushRecord e s.timeBase s.timeBase := by
  unfold State.appendEvent logCapacity
  rw [if_neg (by simp [h]), if_pos room]

theorem State.appendEvent_of_full {s : State} {e : Event} (h : s.coalesces e = false) (full : 16 ≤ s.records.length) :
    s.appendEvent e = s.loseEvent := by
  unfold State.appendEvent logCapacity
  rw [if_neg (by simp [h]), if_neg (Nat.not_lt.mpr full)]

/-- An event coalesces into the newest record: its count and last time move on, and its closing time unless it has
reached 255 events (R138, R139). -/
theorem State.coalesceNewest_eq {s : State} {older : List Record} {r : Record} (h : s.records = older ++ [r]) (e : Event) :
    s.coalesceNewest e =
      { s with
        records := older ++ [r.coalesce e s.timeBase]
        openUntil := if r.repeatCount + 1 < 255 then some (after s.timeBase s.timing.coalescing.toNat) else none } := by
  unfold State.coalesceNewest
  simp only [h, mapLast_append, List.getLast?_append, List.getLast?_singleton, Option.some_or, Option.any_some,
    decide_eq_true_eq, Record.coalesce]

/-- A new record takes the next number, is opened where it may coalesce, and latches LOG at the threshold (R135, R138,
R140). -/
theorem State.pushRecord_eq (s : State) (e : Event) (first last : Time) :
    s.pushRecord e first last =
      { s with
        records := s.records ++ [⟨s.nextSeq, first, last, 1, e⟩]
        nextSeq := s.nextSeq + 1
        openUntil := if e.kind.class = .access ∧ s.timing.coalescing ≠ 0 then
          some (after last s.timing.coalescing.toNat) else none
        latches := if s.timing.threshold.toNat ≤ s.records.length + 1 then { s.latches with log := true }
          else s.latches } := by
  unfold State.pushRecord State.latchLogAtThreshold State.atThreshold
  simp only [List.length_append, List.length_singleton, decide_eq_true_eq, Bool.and_eq_true, beq_iff_eq, bne_iff_ne]
  split <;> rfl

theorem State.loseEvent_eq (s : State) :
    s.loseEvent =
      { s with
        lost := if s.lost < 65535 then s.lost + 1 else 65535
        firstLoss := if s.lost = 0 then some s.timeBase else s.firstLoss
        latestLoss := some s.timeBase
        latches := { s.latches with lost := true } } := by
  have count : min (s.lost + 1) 65535 = if s.lost < 65535 then s.lost + 1 else 65535 := by split <;> omega
  unfold State.loseEvent lostMax
  rw [count]
  rfl

/-- Settles O40: the request coalesces where it may, and else the room in the log decides. -/
theorem appendFates : Obligations.AppendFates := by
  refine ⟨EventKind.class_access_iff, fun e s => ⟨fun older r h may => ?_, fun never room => ?_, fun never full => ?_⟩⟩
  · rw [State.appendEvent_of_coalesces ((s.coalesces_iff e).mpr ⟨r, may⟩), State.coalesceNewest_eq h]
    rfl
  · rw [State.appendEvent_of_room (State.coalesces_eq_false never) room, State.pushRecord_eq]
    rfl
  · rw [State.appendEvent_of_full (State.coalesces_eq_false never) full, State.loseEvent_eq]

/-! ### The laws of the log without the link -/

/-- The laws of the log that do not speak of the taking mark. -/
structure LogCore (s : State) : Prop where
  size : s.records.length ≤ 16
  consecutive : ∀ i (h : i < s.records.length),
    s.records[i].seq = s.nextSeq - BitVec.ofNat 16 (s.records.length - i)
  repeats : ∀ r ∈ s.records, 1 ≤ r.repeatCount ∧ r.repeatCount ≤ 255
  lostBound : s.lost ≤ 65535
  lostFull : s.lost ≠ 0 → s.records.length = 16
  firstLoss : s.firstLoss.isSome = true ↔ s.lost ≠ 0
  latestLoss : s.latestLoss.isSome = true ↔ s.lost ≠ 0
  openNewest : s.openUntil.isSome = true →
    ∃ r, s.records.getLast? = some r ∧ r.event.kind.class = .access ∧ r.repeatCount < 255

/-- The laws of the taking mark. -/
structure TakingSound (s : State) : Prop where
  head : s.taking = true → s.records ≠ []
  closed : s.taking = true → s.records.length = 1 → s.openUntil = none
  frame : s.taking = s.frame.takesEvent
  image : ∀ phase bytes, s.frame = .output .takeEvent phase .done bytes → bytes.length = 32

theorem logSound_iff (s : State) : LogSound s ↔ LogCore s ∧ TakingSound s := by
  constructor
  · rintro ⟨size, consecutive, repeats, lostBound, lostFull, first, latest, newest, head, closed, frame, image⟩
    exact ⟨⟨size, consecutive, repeats, lostBound, lostFull, first, latest, newest⟩, head, closed, frame, image⟩
  · rintro ⟨⟨size, consecutive, repeats, lostBound, lostFull, first, latest, newest⟩, head, closed, frame, image⟩
    exact ⟨size, consecutive, repeats, lostBound, lostFull, first, latest, newest, head, closed, frame, image⟩

/-- What the laws of the log read. -/
def State.logPart (s : State) :
    List Record × BitVec 16 × Nat × Option Time × Option Time × Option Time × Bool × Frame :=
  (s.records, s.nextSeq, s.lost, s.firstLoss, s.latestLoss, s.openUntil, s.taking, s.frame)

theorem LogSound.congr {s t : State} (law : LogSound s) (h : t.logPart = s.logPart) : LogSound t := by
  simp only [State.logPart, Prod.mk.injEq] at h
  obtain ⟨records, nextSeq, lost, first, latest, until_, taking, frame⟩ := h
  obtain ⟨size, consecutive, repeats, lostBound, lostFull, firstLoss, latestLoss, newest, head, closed, frameLaw, image⟩ := law
  constructor <;> simp only [records, nextSeq, lost, first, latest, until_, taking, frame] <;> assumption

theorem LogCore.coalesceNewest {s : State} {e : Event} {r : Record} (law : LogCore s) (may : MayCoalesce s e r) :
    LogCore (s.coalesceNewest e) := by
  obtain ⟨-, open_, newest, -⟩ := may
  obtain ⟨r', same, access, count⟩ := law.openNewest open_
  obtain rfl : r' = r := Option.some.inj (same.symm.trans newest)
  obtain ⟨older, split⟩ := List.getLast?_eq_some_iff.mp newest
  obtain ⟨size, consecutive, repeats, lostBound, lostFull, first, latest, -⟩ := law
  rw [State.coalesceNewest_eq split]
  have length : (older ++ [r'.coalesce e s.timeBase]).length = s.records.length := by simp [split]
  refine ⟨length ▸ size, fun i hi => ?_, fun x hx => ?_, lostBound, fun h => length.trans (lostFull h), first, latest,
    fun h => ⟨r'.coalesce e s.timeBase, by simp, access, ?_⟩⟩
  · have here : i < s.records.length := length ▸ hi
    have number : (older ++ [r'.coalesce e s.timeBase])[i].seq = s.records[i].seq := by
      simp only [split, List.getElem_append, List.getElem_singleton]
      split <;> rfl
    dsimp only
    rw [number, length, consecutive i here]
  · obtain hx | rfl : x ∈ older ∨ x = r'.coalesce e s.timeBase := by simpa using hx
    · exact repeats x (by simp [split, hx])
    · have old := repeats r' (by simp [split])
      exact ⟨Nat.le_succ_of_le old.1, count⟩
  · dsimp only at h
    split at h
    · next few => exact few
    · cases h

theorem LogCore.pushRecord {s : State} (law : LogCore s) (room : s.records.length < 16) (e : Event) (first last : Time) :
    LogCore (s.pushRecord e first last) := by
  obtain ⟨size, consecutive, repeats, lostBound, lostFull, firstLoss, latestLoss, -⟩ := law
  have none_ : s.lost = 0 := by
    by_contra some_
    exact absurd (lostFull some_) (by omega)
  rw [State.pushRecord_eq]
  refine ⟨by simpa using room, fun i hi => ?_, fun x hx => ?_, lostBound, fun h => absurd none_ h, firstLoss, latestLoss,
    fun h => ⟨⟨s.nextSeq, first, last, 1, e⟩, by simp, ?_, Nat.le_of_ble_eq_true rfl⟩⟩
  · dsimp only at hi ⊢
    rw [List.length_append, List.length_singleton] at hi ⊢
    by_cases old : i < s.records.length
    · rw [List.getElem_append_left old, consecutive i old]
      have count : s.records.length + 1 - i = (s.records.length - i) + 1 := by omega
      rw [count, BitVec.ofNat_add]
      bv_omega
    · obtain rfl : i = s.records.length := by omega
      simp
  · obtain hx | rfl : x ∈ s.records ∨ x = _ := by simpa using hx
    · exact repeats x hx
    · exact ⟨Nat.le_refl 1, Nat.le_of_ble_eq_true rfl⟩
  · dsimp only at h
    split at h
    · next access => exact access.1
    · cases h

theorem LogCore.loseEvent {s : State} (law : LogCore s) (full : 16 ≤ s.records.length) : LogCore s.loseEvent := by
  obtain ⟨size, consecutive, repeats, lostBound, lostFull, firstLoss, latestLoss, newest⟩ := law
  have counted : (if s.lost < 65535 then s.lost + 1 else 65535) ≠ 0 := by split <;> omega
  rw [State.loseEvent_eq]
  refine ⟨size, consecutive, repeats, ?_, fun _ => Nat.le_antisymm size full, iff_of_true ?_ counted,
    iff_of_true rfl counted, newest⟩
  · dsimp only
    split <;> omega
  · dsimp only
    split
    · rfl
    · next more => exact firstLoss.mpr more

/-! ### Append requests -/

/-- An append request keeps the laws of the log, whatever TAKE_EVENT has named the head. -/
theorem LogSound.append {s : State} (law : LogSound s) (e : Event) : LogSound (s.appendEvent e) := by
  obtain ⟨core, head, closed, frame, image⟩ := (logSound_iff s).mp law
  refine (logSound_iff _).mpr ⟨?_, ?_⟩
  · obtain ⟨may, h⟩ | ⟨-, room, h⟩ | ⟨-, full, h⟩ := s.appendEvent_cases e <;> rw [h]
    · obtain ⟨r, may⟩ := (s.coalesces_iff e).mp may
      exact core.coalesceNewest may
    · exact core.pushRecord room e _ _
    · exact core.loseEvent full
  · have kept := (s.appendEvent_recordsKept e).length
    refine ⟨fun taking => ?_, fun taking one => ?_, by simpa using frame, by simpa using image⟩
    · have named := head (by simpa using taking)
      rw [← List.length_pos_iff] at named ⊢
      omega
    · rw [s.appendEvent_taking] at taking
      have named := List.length_pos_iff.mpr (head taking)
      have shut := closed taking (by omega)
      obtain ⟨may, h⟩ | ⟨-, room, h⟩ | ⟨-, full, h⟩ := s.appendEvent_cases e
      · obtain ⟨r, -, open_, -⟩ := (s.coalesces_iff e).mp may
        simp [shut] at open_
      · rw [h, State.pushRecord_records, List.length_append, List.length_singleton] at one
        omega
      · rw [h, State.loseEvent_eq] at one
        exact absurd one (by dsimp only; omega)

theorem Change.keepsLog {u v : State} (h : Change u v) (law : LogSound u) : LogSound v := by
  cases h with
  | traffic t h => rw [h]; exact law.congr rfl
  | append e => exact law.append e
  | _ => exact law.congr rfl

theorem Changes.keepsLog {s t : State} (h : Changes s t) (law : LogSound s) : LogSound t := by
  induction h with
  | refl => exact law
  | tail _ last ih => exact last.keepsLog ih

/-- No change of a block touches the taking mark or the frame. -/
theorem Changes.keepsLink {s t : State} (h : Changes s t) : t.taking = s.taking ∧ t.frame = s.frame := by
  induction h with
  | refl => exact ⟨rfl, rfl⟩
  | tail _ last ih =>
    cases last with
    | traffic t h => rw [h]; exact ih
    | append e => simpa using ih
    | _ => exact ih

/-! ### The link -/

/-- A frame that takes no event, or takes on as before. -/
theorem LogSound.setFrame {s : State} (law : LogSound s) {f : Frame} (takes : f.takesEvent = s.frame.takesEvent)
    (image : ∀ phase bytes, f = .output .takeEvent phase .done bytes → bytes.length = 32) :
    LogSound { s with frame := f } := by
  obtain ⟨core, head, closed, frame, -⟩ := (logSound_iff s).mp law
  obtain ⟨size, consecutive, repeats, lostBound, lostFull, firstLoss, latestLoss, newest⟩ := core
  exact (logSound_iff _).mpr
    ⟨⟨size, consecutive, repeats, lostBound, lostFull, firstLoss, latestLoss, newest⟩,
      ⟨head, closed, frame.trans takes.symm, image⟩⟩

/-- No TAKE_EVENT is in progress in the new frame, and the taking mark is gone. -/
theorem LogSound.dropTaking {s : State} (law : LogSound s) {f : Frame} (takes : f.takesEvent = false)
    (image : ∀ phase bytes, f = .output .takeEvent phase .done bytes → bytes.length = 32) :
    LogSound { s with frame := f, taking := false } := by
  obtain ⟨⟨size, consecutive, repeats, lostBound, lostFull, firstLoss, latestLoss, newest⟩, -⟩ := (logSound_iff s).mp law
  exact (logSound_iff _).mpr
    ⟨⟨size, consecutive, repeats, lostBound, lostFull, firstLoss, latestLoss, newest⟩, nofun, nofun, takes.symm, image⟩

/-- The open record is closed. -/
theorem LogSound.close {s : State} (law : LogSound s) : LogSound { s with openUntil := none } := by
  obtain ⟨⟨size, consecutive, repeats, lostBound, lostFull, firstLoss, latestLoss, -⟩, head, -, frame, image⟩ :=
    (logSound_iff s).mp law
  exact (logSound_iff _).mpr
    ⟨⟨size, consecutive, repeats, lostBound, lostFull, firstLoss, latestLoss, nofun⟩, head, fun _ _ => rfl, frame, image⟩

theorem Record.encode_length (r : Record) : r.encode.length = 32 := by
  simp [Record.encode, bytes16, bytes32]

theorem Frame.takesEvent_output_other {c : Command} (h : c ≠ .takeEvent) (phase : OutPhase) (r : Result)
    (bytes : List Byte) : (Frame.output c phase r bytes).takesEvent = false := by
  cases c with
  | takeEvent => exact absurd rfl h
  | _ => rfl

/-- The effect event of a command in a frame that has named no record. -/
theorem LogSound.effectEvent {s : State} (law : LogSound s) (fresh : s.frame.takesEvent = false) (c : Command)
    (args : List Byte) : LogSound (s.effectEvent c args) := by
  unfold State.effectEvent
  by_cases other : c = .takeEvent
  · subst other
    rw [s.carryOut_takeEvent]
    obtain ⟨-, h⟩ | ⟨r, rest, named, h⟩ := carryTakeEvent_cases s <;> rw [h]
    · exact law.setFrame (fresh ▸ rfl) (fun _ _ h => nomatch h)
    · obtain ⟨⟨size, consecutive, repeats, lostBound, lostFull, firstLoss, latestLoss, newest⟩, -⟩ := (logSound_iff s).mp law
      have image : ∀ phase bytes, Frame.output .takeEvent .turnaround .done r.encode = .output .takeEvent phase .done bytes →
          bytes.length = 32 := by
        intro phase bytes h
        cases h
        exact r.encode_length
      refine (logSound_iff _).mpr
        ⟨⟨size, consecutive, repeats, lostBound, lostFull, firstLoss, latestLoss, fun h => newest ?_⟩,
          fun _ => by simp [State.nameHead, named], fun _ one => if_pos one, rfl, image⟩
      dsimp only [State.nameHead] at h
      split at h
      · cases h
      · exact h
  · have changes := s.carryOut_changes c args other
    refine (changes.keepsLog law).setFrame ?_ (fun _ _ h => absurd (Frame.output.inj h).1 other)
    rw [Frame.takesEvent_output_other other, changes.keepsLink.2, fresh]

theorem LogSound.deselect {s : State} (law : LogSound s) : LogSound s.deselect := law.dropTaking rfl nofun

theorem State.newFrame_eq (s : State) :
    s.newFrame = { s with frame := if s.slinkTakes then .command else .ignored, taking := false } := rfl

theorem LogSound.newFrame {s : State} (law : LogSound s) : LogSound s.newFrame ∧ s.newFrame.frame.takesEvent = false := by
  rw [s.newFrame_eq]
  cases s.slinkTakes <;> exact ⟨law.dropTaking rfl nofun, rfl⟩

theorem LogSound.runFrame {s : State} (law : LogSound s) (c : Command) (args : List Byte) : LogSound (s.runFrame c args) := by
  unfold State.runFrame
  split
  · exact law.newFrame.1.effectEvent law.newFrame.2 c args
  · exact law

/-- The removal event takes the named head, and an OVERFLOW record takes its place where events were lost (R143). -/
theorem LogSound.finishReply {s : State} (law : LogSound s) {bytes : List Byte} (taking : s.taking = true)
    (image : bytes.length = 32) : LogSound (s.finishReply .takeEvent .done bytes) := by
  obtain ⟨⟨size, consecutive, repeats, lostBound, lostFull, firstLoss, latestLoss, newest⟩, head, closed, -⟩ :=
    (logSound_iff s).mp law
  obtain ⟨r, rest, split⟩ := List.exists_cons_of_ne_nil (head taking)
  have newest' : s.openUntil.isSome = true →
      ∃ r, rest.getLast? = some r ∧ r.event.kind.class = .access ∧ r.repeatCount < 255 := by
    intro open_
    obtain ⟨x, last, found⟩ := newest open_
    cases rest with
    | nil => simp [closed taking (by simp [split])] at open_
    | cons y rest => exact ⟨x, by simpa [split] using last, found⟩
  simp only [split, List.length_cons] at size consecutive lostFull
  have consecutive' : ∀ i (h : i < rest.length), rest[i].seq = s.nextSeq - BitVec.ofNat 16 (rest.length - i) := by
    intro i h
    have number := consecutive (i + 1) (by simpa using h)
    rwa [List.getElem_cons_succ, Nat.add_sub_add_right] at number
  have repeats' : ∀ r ∈ rest, 1 ≤ r.repeatCount ∧ r.repeatCount ≤ 255 := fun x hx => repeats x (by simp [split, hx])
  have core : LogCore s.removeHead := by
    unfold State.removeHead State.reportLosses
    simp only [split, List.drop_succ_cons, List.drop_zero]
    by_cases none_ : s.lost = 0
    · rw [if_pos none_]
      refine ⟨?_, consecutive', repeats', lostBound, fun h => absurd none_ h, firstLoss, latestLoss, newest'⟩
      dsimp only
      omega
    · rw [if_neg none_]
      have clear : LogCore { s with
          records := rest, taking := false, lost := 0, firstLoss := none, latestLoss := none, openUntil := none } := by
        refine ⟨?_, consecutive', repeats', Nat.zero_le _, fun h => absurd rfl h, by simp, by simp, nofun⟩
        dsimp only
        omega
      have pushed := clear.pushRecord (by dsimp only; have := lostFull none_; omega)
        { kind := .overflow, count := some (BitVec.ofNat 16 s.lost) } (s.firstLoss.getD 0) (s.latestLoss.getD 0)
      rw [State.pushRecord_eq] at pushed ⊢
      exact pushed
  obtain ⟨size, consecutive, repeats, lostBound, lostFull, firstLoss, latestLoss, newest⟩ := core
  have untaken : s.removeHead.taking = false := by rw [s.removeHead_touches]
  unfold State.finishReply
  dsimp only
  rw [if_pos ⟨rfl, rfl⟩]
  refine (logSound_iff _).mpr
    ⟨⟨size, consecutive, repeats, lostBound, lostFull, firstLoss, latestLoss, newest⟩,
      fun h => absurd (untaken.symm.trans h) (by decide), fun h => absurd (untaken.symm.trans h) (by decide), untaken, ?_⟩
  intro phase bytes' h
  cases h
  exact image

theorem LogSound.takeByte {s : State} (law : LogSound s) (b : Byte) : LogSound (s.takeByte b) := by
  have image := law.takenImage
  unfold State.takeByte
  split
  · exact law
  · exact law
  · exact law
  · next command =>
    have fresh : s.frame.takesEvent = false := by rw [command]; rfl
    split
    · exact law.setFrame fresh.symm nofun
    · split
      · exact law.effectEvent fresh _ _
      · exact law.setFrame fresh.symm nofun
  · next argument =>
    have fresh : s.frame.takesEvent = false := by rw [argument]; rfl
    split
    · exact law.setFrame fresh.symm nofun
    · exact law.effectEvent fresh _ _
  · next c phase r bytes frame =>
    by_cases take : c = .takeEvent ∧ r = .done
    · obtain ⟨rfl, rfl⟩ := take
      have length := image phase bytes frame
      have kept : ∀ phase' phase'' bytes', Frame.output .takeEvent phase' .done bytes = .output .takeEvent phase'' .done bytes' →
          bytes'.length = 32 := by
        intro phase' phase'' bytes' h
        cases h
        exact length
      split
      · exact law.setFrame (by rw [frame]; rfl) (kept _)
      · have some_ : bytes.isEmpty = false := by cases bytes with
          | nil => cases length
          | cons _ _ => rfl
        rw [some_]
        exact law.setFrame (by rw [frame]; rfl) (kept _)
      · split
        · exact law.setFrame (by rw [frame]; rfl) (kept _)
        · exact law.finishReply (by rw [law.takingFrame, frame]; rfl) length
      · exact law
    · have other : ∀ phase', (Frame.output c phase' r bytes).takesEvent = s.frame.takesEvent := by
        have never : ∀ phase', (Frame.output c phase' r bytes).takesEvent = false := by
          intro phase'
          by_cases h : c = .takeEvent
          · subst h
            cases r with
            | done => exact absurd ⟨rfl, rfl⟩ take
            | _ => cases phase' <;> rfl
          · exact Frame.takesEvent_output_other h phase' r bytes
        intro phase'
        rw [never, frame, never]
      have kept : ∀ phase' phase'' bytes', Frame.output c phase' r bytes = .output .takeEvent phase'' .done bytes' →
          bytes'.length = 32 := by
        intro phase' phase'' bytes' h
        cases h
        exact absurd ⟨rfl, rfl⟩ take
      split
      · exact law.setFrame (other _) (kept _)
      · exact law.setFrame (other _) (kept _)
      · split
        · exact law.setFrame (other _) (kept _)
        · unfold State.finishReply
          dsimp only
          rw [if_neg take]
          exact law.setFrame (other _) (kept _)
      · exact law

/-! ### Every command, and every step -/

theorem LogSound.lineReset {s : State} (law : LogSound s) : LogSound s.lineReset := by
  have idle : ∀ f : Frame, (f = .idle ∨ f = .ignored) → LogSound { s with openUntil := none, frame := f, taking := false } := by
    rintro f (rfl | rfl) <;> exact law.close.dropTaking rfl nofun
  refine (idle (if s.frame = .idle then .idle else .ignored) ?_).congr rfl
  split
  · exact .inl rfl
  · exact .inr rfl

/-- The log right after power-on reset. -/
theorem logSound_empty {s : State} (records : s.records = []) (lost : s.lost = 0) (first : s.firstLoss = none)
    (latest : s.latestLoss = none) (until_ : s.openUntil = none) (taking : s.taking = false)
    (frame : s.frame = .idle ∨ s.frame = .ignored) : LogSound s := by
  refine (logSound_iff s).mpr ⟨⟨by simp [records], fun i hi => ?_, by simp [records], by simp [lost], by simp [lost],
    by simp [lost, first], by simp [lost, latest], by simp [until_]⟩, by simp [taking], by simp [taking], ?_, ?_⟩
  · simp [records] at hi
  · obtain h | h := frame <;> rw [taking, h] <;> rfl
  · obtain h | h := frame <;> rw [h] <;> nofun

theorem LogSound.exec {c : Instr} {s t : State} (law : LogSound s) (h : exec c s = .next t) : LogSound t := by
  cases c with
  | powerOnReset =>
    cases h
    refine logSound_empty rfl rfl rfl rfl rfl rfl ?_
    dsimp only
    split
    · exact .inl rfl
    · exact .inr rfl
  | arrival req =>
    cases h
    split
    · exact (s.classify_changes req).keepsLog law
    · exact law
  | answerTaken => cases h; exact law.congr rfl
  | delivery => cases h; exact s.deliver_changes.keepsLog law
  | mportRequestTaken => cases h; exact s.takeOffer_changes.keepsLog law
  | mportResponseTaken resp =>
    cases h
    split
    · exact (s.respond_changes resp).keepsLog law
    · exact law
  | verifyLimitExpiry m => cases h; exact (s.expireVerify_changes m).keepsLog law
  | forwardLimitExpiry m => cases h; exact (s.expireForward_changes m).keepsLog law
  | mportResetEnd => cases h; exact s.endMportReset_changes.keepsLog law
  | readStatus => cases h; exact law.runFrame _ _
  | setMode mode => cases h; exact law.runFrame _ _
  | lockConfig => cases h; exact law.runFrame _ _
  | setTiming image => cases h; exact law.runFrame _ _
  | fetchTiming => cases h; exact law.runFrame _ _
  | loadRegion index image => cases h; exact law.runFrame _ _
  | fetchRegion index => cases h; exact law.runFrame _ _
  | dropRegion index => cases h; exact law.runFrame _ _
  | loadSequence index image => cases h; exact law.runFrame _ _
  | fetchSequence index => cases h; exact law.runFrame _ _
  | dropSequence index => cases h; exact law.runFrame _ _
  | openWindow group d => cases h; exact law.runFrame _ _
  | closeWindow group => cases h; exact law.runFrame _ _
  | freezeGroup group => cases h; exact law.runFrame _ _
  | takeEvent => cases h; exact law.runFrame _ _
  | ackAttn causes => cases h; exact law.runFrame _ _
  | setAttnMask causes => cases h; exact law.runFrame _ _
  | resetMport => cases h; exact law.runFrame _ _
  | takeEventRemoval =>
    cases h
    split
    · next bytes frame =>
      split
      · next taking => exact law.finishReply taking (law.takenImage _ bytes frame)
      · exact law
    · exact law
  | badCommand code =>
    cases h
    split
    · exact law.newFrame.1.takeByte code
    · exact law
  | frameDeselect => cases h; exact law.deselect
  | windowExpiry g => cases h; exact (s.expireWindow_changes g).keepsLog law
  | deadlineExpiry i => cases h; exact (s.expireDeadline_changes i).keepsLog law
  | pulseEnd =>
    cases h
    split
    · exact law.congr rfl
    · exact law
  | repulseGapEnd =>
    cases h
    split
    · exact law.congr rfl
    · exact law
  | coalescingClose =>
    cases h
    split
    · exact law.close
    · exact law
  | lineResetAssert =>
    cases h
    split
    · exact law
    · split
      · exact law.congr rfl
      · exact law.lineReset
  | lineResetRelease =>
    cases h
    split
    · exact law
    · split
      · exact law.congr rfl
      · have released : LogSound { s with rstAsserted := false } := law.congr rfl
        exact released.append _
  | selectPeriodBegin =>
    cases h
    unfold State.select
    split
    · next idle =>
      cases s.slinkTakes <;> exact law.setFrame (by rw [idle]; rfl) nofun
    · exact law
  | slinkByteTaken b =>
    cases h
    split
    · exact law.takeByte b
    · exact law
  | powerOnResetEnd =>
    cases h
    split
    · dsimp only
      split
      · exact LogSound.lineReset (law.congr rfl)
      · exact law.congr rfl
    · exact law

/-- Settles O43: append requests, the naming of the head and the removal event keep the laws, and the frame of a
TAKE_EVENT holds the taking mark. -/
theorem logStaysSound : Obligations.LogStaysSound := by
  intro s t law h
  obtain ⟨-, rfl⟩ | ⟨c, rest, -, h⟩ := step_cases h
  · obtain ⟨u, h⟩ := s.tick_touches
    rw [h]
    exact law.congr rfl
  · have taken : LogSound { s with pending := rest } := law.congr rfl
    exact taken.exec h

end Sys2Proof.Machine
end

section
/-! SUPPORT. The transaction table of chapter 4, without the commands: the record an H-tag names, the words of orphaned
tags, word order as a law on pairs of records, and what a promotion makes of a table. -/

namespace Sys2Proof.Machine

/-! ### The record an H-tag names (R60) -/

theorem DistinctTags.eq_of_htag {s : State} (h : DistinctTags s) {x y : Txn} (hx : x ∈ s.table) (hy : y ∈ s.table)
    (same : x.htag = y.htag) : x = y := List.inj_on_of_nodup_map h hx hy same

theorem State.txn?_some {s : State} {h : HTag} {x : Txn} (found : s.txn? h = some x) : x ∈ s.table ∧ x.htag = h :=
  ⟨List.mem_of_find?_eq_some found, by simpa using List.find?_some found⟩

theorem DistinctTags.txn?_eq {s : State} (h : DistinctTags s) {x : Txn} (hx : x ∈ s.table) :
    s.txn? x.htag = some x := by
  cases found : s.txn? x.htag with
  | none => exact absurd (List.find?_eq_none.mp found x hx) (by simp)
  | some y =>
    obtain ⟨hy, same⟩ := State.txn?_some found
    rw [h.eq_of_htag hy hx same]

/-- Changing the record an H-tag names changes that record alone. -/
theorem DistinctTags.mem_updateTxn {s : State} (h : DistinctTags s) {x : Txn} (hx : x ∈ s.table) (g : Txn → Txn)
    (z : Txn) : z ∈ (s.updateTxn x.htag g).table ↔ z = g x ∨ z ∈ s.table ∧ z.htag ≠ x.htag := by
  simp only [State.updateTxn_table, List.mem_map, beq_iff_eq]
  constructor
  · rintro ⟨y, hy, rfl⟩
    split
    · next same => exact .inl (congrArg g (h.eq_of_htag hy hx same))
    · next other => exact .inr ⟨hy, other⟩
  · rintro (rfl | ⟨hz, other⟩)
    · exact ⟨x, hx, if_pos rfl⟩
    · exact ⟨z, hz, if_neg other⟩

/-- The table around a record that is changed. -/
theorem DistinctTags.updateTxn_split {s : State} (h : DistinctTags s) {x : Txn} {older younger : List Txn}
    (split : s.table = older ++ x :: younger) (g : Txn → Txn) :
    (s.updateTxn x.htag g).table = older ++ g x :: younger := by
  have others : ∀ y, y ∈ older ∨ y ∈ younger → y.htag ≠ x.htag := by
    unfold DistinctTags at h
    rw [split, List.map_append, List.map_cons, List.nodup_append, List.nodup_cons] at h
    obtain ⟨-, ⟨notYounger, -⟩, apart⟩ := h
    rintro y (hy | hy) same
    · exact apart _ (List.mem_map_of_mem hy) _ (by simp) same
    · exact notYounger (same ▸ List.mem_map_of_mem hy)
  have same : ∀ l : List Txn, (∀ y ∈ l, y.htag ≠ x.htag) → l.map (fun t => if t.htag == x.htag then g t else t) = l :=
    fun l h => (List.map_congr_left fun y hy => if_neg (by simpa using h y hy)).trans (List.map_id _)
  rw [State.updateTxn_table, split, List.map_append, List.map_cons, if_pos (by simp),
    same older fun y hy => others y (.inl hy), same younger fun y hy => others y (.inr hy)]

/-! ### The words of orphaned tags (R65) -/

theorem TagEntry.orphanWord?_eq_some_iff (e : TagEntry) (w : WordAddr) :
    e.orphanWord? = some w ↔ ∃ o, e = .orphaned o ∧ o.word = w := by
  cases e <;> simp [TagEntry.orphanWord?]

theorem State.orphanWords_eq (s : State) :
    s.orphanWords = (List.finRange 8).filterMap (fun m => (s.tag m).orphanWord?) := by
  have tags : s.mtags.toList = (List.finRange 8).map s.tag := by
    refine List.ext_getElem (by simp) fun i h _ => ?_
    simp [State.tag]
  unfold State.orphanWords
  rw [tags, List.filterMap_map]
  rfl

/-- The words orphaned tags hold back are those they carry (R93). -/
theorem State.mem_orphanWords (s : State) (w : WordAddr) :
    w ∈ s.orphanWords ↔ ∃ m o, s.tag m = .orphaned o ∧ o.word = w := by
  simp only [s.orphanWords_eq, List.mem_filterMap, List.mem_finRange, true_and, TagEntry.orphanWord?_eq_some_iff]

theorem State.orphanWords_nodup_iff (s : State) : s.orphanWords.Nodup ↔
    ∀ m n o o', s.tag m = .orphaned o → s.tag n = .orphaned o' → o.word = o'.word → m = n := by
  rw [s.orphanWords_eq]
  constructor
  · intro h m n o o' hm hn same
    by_contra other
    rw [List.Nodup, List.pairwise_filterMap] at h
    have symmetric : Std.Symm fun a b : MTag =>
        ∀ w, (s.tag a).orphanWord? = some w → ∀ v, (s.tag b).orphanWord? = some v → w ≠ v :=
      ⟨fun a b h x hx y hy => (h y hy x hx).symm⟩
    exact h.forall (List.mem_finRange m) (List.mem_finRange n) other o.word (by rw [hm]; rfl) o'.word (by rw [hn]; rfl) same
  · intro h
    refine (List.nodup_finRange 8).filterMap fun m n w hm hn => ?_
    obtain ⟨o, ho, word⟩ := (TagEntry.orphanWord?_eq_some_iff _ _).mp hm
    obtain ⟨o', ho', word'⟩ := (TagEntry.orphanWord?_eq_some_iff _ _).mp hn
    exact h m n o o' ho ho' (word.trans word'.symm)

theorem State.orphanWords_congr {s t : State} (h : ∀ m, (t.tag m).orphanWord? = (s.tag m).orphanWord?) :
    t.orphanWords = s.orphanWords := by
  simp only [State.orphanWords_eq, h]

/-! ### Word order (R63 to R66) -/

theorem blockedBy_iff (words touched : List WordAddr) : blockedBy words touched = true ↔ ∃ w ∈ touched, w ∈ words := by
  simp [blockedBy]

theorem blockedBy_eq_false_iff (words touched : List WordAddr) :
    blockedBy words touched = false ↔ ∀ w ∈ touched, w ∉ words := by
  rw [← Bool.not_eq_true, blockedBy_iff]
  simp

/-- The record is not held back by the words: it is WAITING, or touches none of them. -/
def Txn.ClearOf (t : Txn) (words : List WordAddr) : Prop := t.state ≠ .waiting → ∀ w ∈ t.touched, w ∉ words

/-- No record past WAITING touches a word of an earlier record, or, until it is COMPLETE, of an orphaned tag (R63,
R65). -/
structure Apart (orphans : List WordAddr) (table : List Txn) : Prop where
  records : table.Pairwise (fun y x => x.ClearOf y.touched)
  orphans : ∀ x ∈ table, x.state ≠ .complete → x.ClearOf orphans

/-- Every WAITING record touches one of the words held before it (R66). -/
def HeldBack : List WordAddr → List Txn → Prop
  | _, [] => True
  | held, t :: rest => (t.state = .waiting → ∃ w ∈ t.touched, w ∈ held) ∧ HeldBack (held ++ t.touched) rest

theorem Txn.ordered_iff (held orphans : List WordAddr) (t : Txn) :
    t.ordered held orphans = true ↔ t.ClearOf held ∧ (t.state ≠ .complete → t.ClearOf orphans)
      ∧ (t.state = .waiting → ∃ w ∈ t.touched, w ∈ orphans ++ held) := by
  have free : ∀ words, (!blockedBy words t.touched) = true ↔ ∀ w ∈ t.touched, w ∉ words := by
    intro words
    rw [Bool.not_eq_true', blockedBy_eq_false_iff]
  have both : (∀ w ∈ t.touched, w ∉ orphans ++ held)
      ↔ (∀ w ∈ t.touched, w ∉ held) ∧ ∀ w ∈ t.touched, w ∉ orphans := by
    simp only [List.mem_append, not_or]
    exact ⟨fun h => ⟨fun w hw => (h w hw).2, fun w hw => (h w hw).1⟩, fun h w hw => ⟨h.2 w hw, h.1 w hw⟩⟩
  unfold Txn.ordered Txn.ClearOf
  cases t.state <;> simp only [free, both, blockedBy_iff, ne_eq, reduceCtorEq, not_true_eq_false, not_false_eq_true,
    forall_true_left, false_implies, true_and, and_true]

/-- The order of R63 on a table: pairs of records, the orphans, and the records that are held back. -/
theorem tableOrdered_iff (orphans held : List WordAddr) (table : List Txn) :
    tableOrdered orphans held table = true ↔
      (∀ x ∈ table, x.ClearOf held) ∧ Apart orphans table ∧ HeldBack (orphans ++ held) table := by
  induction table generalizing held with
  | nil => simp [tableOrdered, HeldBack, Apart.mk]
  | cons t rest ih =>
    have words : ∀ x : Txn, x.ClearOf (held ++ t.touched) ↔ x.ClearOf held ∧ x.ClearOf t.touched := by
      intro x
      simp only [Txn.ClearOf, List.mem_append, not_or]
      exact ⟨fun h => ⟨fun p w hw => (h p w hw).1, fun p w hw => (h p w hw).2⟩, fun h p w hw => ⟨h.1 p w hw, h.2 p w hw⟩⟩
    simp only [tableOrdered, Bool.and_eq_true, Txn.ordered_iff, ih, words, HeldBack, List.forall_mem_cons,
      List.append_assoc]
    constructor
    · rintro ⟨⟨clear, orphan, waits⟩, rests, ⟨pairs, orphans⟩, held⟩
      exact ⟨⟨clear, fun x hx => (rests x hx).1⟩, ⟨List.pairwise_cons.mpr ⟨fun x hx => (rests x hx).2, pairs⟩,
        List.forall_mem_cons.mpr ⟨orphan, orphans⟩⟩, waits, held⟩
    · rintro ⟨⟨clear, rests⟩, ⟨pairs, orphans⟩, waits, held⟩
      obtain ⟨first, pairs⟩ := List.pairwise_cons.mp pairs
      obtain ⟨orphan, orphans⟩ := List.forall_mem_cons.mp orphans
      exact ⟨⟨clear, orphan, waits⟩, fun x hx => ⟨rests x hx, first x hx⟩, ⟨pairs, orphans⟩, held⟩

theorem tableOrdered_nil_iff (orphans : List WordAddr) (table : List Txn) :
    tableOrdered orphans [] table = true ↔ Apart orphans table ∧ HeldBack orphans table := by
  rw [tableOrdered_iff, List.append_nil]
  exact and_iff_right fun x _ _ w _ => List.not_mem_nil

/-- Records that keep their words and go on from READY or later stay apart. -/
theorem Apart.map {orphans orphans' : List WordAddr} {table : List Txn} (h : Apart orphans table) (g : Txn → Txn)
    (touched : ∀ x ∈ table, (g x).touched = x.touched)
    (waiting : ∀ x ∈ table, (g x).state ≠ .waiting → x.state ≠ .waiting)
    (clear : ∀ x ∈ table, (g x).state ≠ .complete → (g x).ClearOf orphans') : Apart orphans' (table.map g) := by
  refine ⟨List.pairwise_map.mpr (h.records.imp_of_mem fun {y x} hy hx apart p => ?_), ?_⟩
  · rw [touched x hx, touched y hy]
    exact apart (waiting x hx p)
  · rintro _ hz
    obtain ⟨x, hx, rfl⟩ := List.mem_map.mp hz
    exact clear x hx

theorem HeldBack.mono {held held' : List WordAddr} {table : List Txn} (h : HeldBack held table) (le : held ⊆ held') :
    HeldBack held' table := by
  induction table generalizing held held' with
  | nil => trivial
  | cons t rest ih =>
    obtain ⟨waits, rests⟩ := h
    refine ⟨fun p => ?_, ih rests fun w hw => ?_⟩
    · obtain ⟨w, hw, blocked⟩ := waits p
      exact ⟨w, hw, le blocked⟩
    · rw [List.mem_append] at hw ⊢
      exact hw.imp_left (@le w)

theorem HeldBack.map {held : List WordAddr} {table : List Txn} (h : HeldBack held table) (g : Txn → Txn)
    (touched : ∀ x ∈ table, (g x).touched = x.touched)
    (waiting : ∀ x ∈ table, (g x).state = .waiting → x.state = .waiting) : HeldBack held (table.map g) := by
  induction table generalizing held with
  | nil => trivial
  | cons t rest ih =>
    obtain ⟨waits, rests⟩ := h
    have same := touched t (by simp)
    refine ⟨fun p => ?_, ?_⟩
    · rw [same]
      exact waits (waiting t (by simp) p)
    · rw [same]
      exact ih rests (fun x hx => touched x (by simp [hx])) (fun x hx => waiting x (by simp [hx]))

theorem HeldBack.append_one {held : List WordAddr} {table : List Txn} {t : Txn} (h : HeldBack held table)
    (last : t.state = .waiting → ∃ w ∈ t.touched, w ∈ held ++ table.flatMap (·.touched)) :
    HeldBack held (table ++ [t]) := by
  induction table generalizing held with
  | nil => exact ⟨by simpa using last, trivial⟩
  | cons x rest ih => exact ⟨h.1, ih h.2 (by simpa using last)⟩

/-! ### A promotion (R66) -/

/-- What a promotion leaves in a table: the records as they were, and the WAITING ones clear of what is held. -/
theorem mem_promoteFrom {held : List WordAddr} {table : List Txn} {z : Txn} (h : z ∈ promoteFrom held table) :
    z ∈ table ∨ ∃ x ∈ table, x.state = .waiting ∧ (∀ w ∈ x.touched, w ∉ held) ∧ z = { x with state := .ready } := by
  induction table generalizing held with
  | nil => simp [promoteFrom] at h
  | cons t rest ih =>
    obtain rfl | h := List.mem_cons.mp h
    · split
      · next clear =>
        exact .inr ⟨t, by simp, clear.1, (blockedBy_eq_false_iff ..).mp clear.2, rfl⟩
      · exact .inl (by simp)
    · obtain h | ⟨x, hx, waiting, clear, rfl⟩ := ih h
      · exact .inl (by simp [h])
      · exact .inr ⟨x, by simp [hx], waiting, fun w hw => fun held => clear w hw (by simp [held]), rfl⟩

theorem mem_promoteFrom_of_not_waiting {held : List WordAddr} {table : List Txn} {x : Txn} (hx : x ∈ table)
    (h : x.state ≠ .waiting) : x ∈ promoteFrom held table := by
  induction table generalizing held with
  | nil => cases hx
  | cons t rest ih =>
    obtain rfl | hx := List.mem_cons.mp hx
    · exact List.mem_cons.mpr (.inl (if_neg fun clear => h clear.1).symm)
    · exact List.mem_cons_of_mem _ (ih hx)

/-- A promotion changes nothing but states. -/
theorem map_promoteFrom {α : Type} (f : Txn → α) (h : ∀ t : Txn, f { t with state := .ready } = f t)
    (held : List WordAddr) (table : List Txn) : (promoteFrom held table).map f = table.map f := by
  induction table generalizing held with
  | nil => rfl
  | cons t rest ih =>
    rw [promoteFrom, List.map_cons, List.map_cons, ih]
    congr 1
    split
    · exact h t
    · rfl

theorem heldBack_promoteFrom (held : List WordAddr) (table : List Txn) : HeldBack held (promoteFrom held table) := by
  induction table generalizing held with
  | nil => trivial
  | cons t rest ih =>
    rw [promoteFrom]
    split
    · exact ⟨nofun, ih _⟩
    · next not =>
      refine ⟨fun waiting => ?_, ih _⟩
      rw [← blockedBy_iff]
      simpa [waiting] using not

theorem Apart.promoteFrom {orphans held : List WordAddr} {table : List Txn} (h : Apart orphans table)
    (le : orphans ⊆ held) : Apart orphans (promoteFrom held table) := by
  have clear : ∀ {words held : List WordAddr} {table : List Txn}, (∀ x ∈ table, x.ClearOf words) → words ⊆ held →
      ∀ z ∈ Machine.promoteFrom held table, z.ClearOf words := by
    intro words held table old le z hz
    obtain hz | ⟨x, -, -, free, rfl⟩ := mem_promoteFrom hz
    · exact old z hz
    · exact fun _ w hw inside => free w hw (le inside)
  refine ⟨?_, fun z hz p => ?_⟩
  · have pairs := h.records
    clear h le
    induction table generalizing held with
    | nil => exact .nil
    | cons t rest ih =>
      obtain ⟨first, pairs⟩ := List.pairwise_cons.mp pairs
      refine List.pairwise_cons.mpr ⟨?_, ih pairs⟩
      have same : (if t.state = .waiting ∧ blockedBy held t.touched = false then { t with state := .ready } else t).touched
          = t.touched := by split <;> rfl
      rw [same]
      exact clear first (List.subset_append_right _ _)
  · obtain hz | ⟨x, -, -, free, rfl⟩ := mem_promoteFrom hz
    · exact h.orphans z hz p
    · exact fun _ w hw inside => free w hw (le inside)

end Sys2Proof.Machine
end

section
/-! SUPPORT. The laws of the transaction table and the M-tags, operation by operation: a record and its tag change
together (`Handover`), a promotion restores the order of R66, and the arbiter leaves no grant open. -/

namespace Sys2Proof.Machine

/-! ### The laws, but for the records that are held back -/

/-- The laws of the table but for R66's: a WAITING record may be clear of all that is held. -/
structure TableCore (s : State) : Prop where
  distinct : DistinctTags s
  slots : SlotsBounded s
  shapes : ∀ t ∈ s.table, t.shape = true ∧ t.entered = true
  apart : Apart s.orphanWords s.table
  queue : s.deliveries.Nodup
  queued : ∀ h, h ∈ s.deliveries ↔ ∃ t ∈ s.table, t.htag = h ∧ t.state = .complete
  owned : ∀ m a, s.tag m = .active a →
    ∃ t ∈ s.table, t.htag = a.owner ∧ t.mtag = some m ∧ a.word = t.requestWord ∧ a.purpose = t.requestPurpose
  owner : ∀ t ∈ s.table, ∀ m, t.mtag = some m → ∃ a, s.tag m = .active a ∧ a.owner = t.htag
  orphans : s.orphanWords.Nodup
  offered : ∀ m, s.onOffer = some m ↔ ∃ a, s.tag m = .active a ∧ a.taken = none
  resetting : s.port ≠ .ready → ∀ m, s.tag m = .free

theorem tableSound_iff (s : State) : TableSound s ↔ TableCore s ∧ HeldBack s.orphanWords s.table := by
  constructor
  · rintro ⟨distinct, slots, shapes, ordered, queue, queued, owned, owner, orphans, offered, resetting⟩
    obtain ⟨apart, held⟩ := (tableOrdered_nil_iff _ _).mp ordered
    exact ⟨⟨distinct, slots, shapes, apart, queue, queued, owned, owner, orphans, offered, resetting⟩, held⟩
  · rintro ⟨⟨distinct, slots, shapes, apart, queue, queued, owned, owner, orphans, offered, resetting⟩, held⟩
    exact ⟨distinct, slots, shapes, (tableOrdered_nil_iff _ _).mpr ⟨apart, held⟩, queue, queued, owned, owner, orphans,
      offered, resetting⟩

/-- What the laws of the table read. -/
def State.trafficPart (s : State) : List Txn × List HTag × Vector TagEntry 8 × Option MTag × PortState :=
  (s.table, s.deliveries, s.mtags, s.onOffer, s.port)

/-- The laws of the table and the tags, and no grant open. -/
def TableLaw (s : State) : Prop := TableSound s ∧ ArbiterSettled s

theorem TableSound.congr {s t : State} (law : TableSound s) (h : t.trafficPart = s.trafficPart) : TableSound t := by
  obtain ⟨distinct, slots, shapes, ordered, queue, queued, owned, owner, orphans, offered, resetting⟩ := law
  cases s
  cases t
  simp only [State.trafficPart, Prod.mk.injEq] at h
  obtain ⟨rfl, rfl, rfl, rfl, rfl⟩ := h
  exact ⟨distinct, slots, shapes, ordered, queue, queued, owned, owner, orphans, offered, resetting⟩

theorem TableLaw.congr {s t : State} (law : TableLaw s) (h : t.trafficPart = s.trafficPart) : TableLaw t := by
  refine ⟨law.1.congr h, ?_⟩
  have settled := law.2
  cases s
  cases t
  simp only [State.trafficPart, Prod.mk.injEq] at h
  obtain ⟨rfl, rfl, rfl, rfl, rfl⟩ := h
  exact settled

/-! ### The shape of a record (Table 4-2) -/

/-- A record holds an M-tag only in VERIFYING and ISSUED. -/
theorem Txn.state_of_mtag {t : Txn} {m : MTag} (shape : t.shape = true) (h : t.mtag = some m) :
    t.state = .verifying ∨ t.state = .issued := by
  unfold Txn.shape at shape
  cases state : t.state <;> simp [state, h] at shape ⊢

/-- A record that has been answered keeps its hold slot where it needed a verify read. -/
theorem Txn.holdSlot_of_mtag {t : Txn} {m : MTag} (shape : t.shape = true) (h : t.mtag = some m) :
    (t.holdSlot == t.needsVerify) = true := by
  unfold Txn.shape at shape
  cases state : t.state <;> simp_all

/-! ### A promotion -/

theorem State.promote_slotsInUse (s : State) : s.promote.slotsInUse = s.slotsInUse := by
  have same := map_promoteFrom Txn.holdSlot (fun _ => rfl) s.orphanWords s.table
  have count : ∀ l : List Txn, (l.filter (fun t => t.holdSlot)).length = ((l.map Txn.holdSlot).filter id).length := by
    intro l
    rw [List.filter_map, List.length_map]
    rfl
  unfold State.slotsInUse
  rw [State.promote_table, count, same, ← count]

theorem State.mem_promote_table {s : State} {z : Txn} (h : z ∈ s.promote.table) :
    z ∈ s.table ∨ ∃ x ∈ s.table, x.state = .waiting ∧ z = { x with state := .ready } := by
  obtain h | ⟨x, hx, waiting, -, rfl⟩ := mem_promoteFrom h
  · exact .inl h
  · exact .inr ⟨x, hx, waiting, rfl⟩

/-- A promotion restores the order of R66. -/
theorem TableCore.promote {s : State} (law : TableCore s) : TableSound s.promote := by
  obtain ⟨distinct, slots, shapes, apart, queue, queued, owned, owner, orphans, offered, resetting⟩ := law
  have kept : ∀ x ∈ s.table, x.state ≠ .waiting → x ∈ s.promote.table :=
    fun x hx past => mem_promoteFrom_of_not_waiting hx past
  have noTag : ∀ x ∈ s.table, x.state = .waiting → x.mtag = none := by
    intro x hx waiting
    have shape := (shapes x hx).1
    simp only [Txn.shape, waiting, Bool.and_eq_true, Option.isNone_iff_eq_none] at shape
    exact shape.1.2
  refine (tableSound_iff _).mpr ⟨⟨?_, ?_, fun z hz => ?_, apart.promoteFrom (fun _ h => h), queue, fun h => ?_,
    fun m a active => ?_, fun z hz m named => ?_, orphans, offered, resetting⟩, heldBack_promoteFrom _ _⟩
  · have same := map_promoteFrom Txn.htag (fun _ => rfl) s.orphanWords s.table
    unfold DistinctTags
    rw [State.promote_table, same]
    exact distinct
  · unfold SlotsBounded
    rw [s.promote_slotsInUse]
    exact slots
  · obtain hz | ⟨x, hx, waiting, rfl⟩ := State.mem_promote_table hz
    · exact shapes z hz
    · have shape := shapes x hx
      simp only [Txn.shape, waiting] at shape
      exact shape
  · rw [State.promote_deliveries, queued h]
    constructor
    · rintro ⟨x, hx, name, complete⟩
      exact ⟨x, kept x hx (by simp [complete]), name, complete⟩
    · rintro ⟨z, hz, name, complete⟩
      obtain hz | ⟨x, -, -, rfl⟩ := State.mem_promote_table hz
      · exact ⟨z, hz, name, complete⟩
      · cases complete
  · obtain ⟨t, ht, name, mine, word, purpose⟩ := owned m a active
    refine ⟨t, kept t ht fun waiting => ?_, name, mine, word, purpose⟩
    rw [noTag t ht waiting] at mine
    cases mine
  · obtain hz | ⟨x, hx, waiting, rfl⟩ := State.mem_promote_table hz
    · exact owner z hz m named
    · dsimp only at named
      rw [noTag x hx waiting] at named
      cases named

/-! ### A record and its tag change together -/

/-- The record past WAITING and the M-tag `m` change together: the record's own tag, or a FREE one that it is given. -/
structure Handover (s : State) (x : Txn) (m : MTag) (e : TagEntry) (g : Txn → Txn) : Prop where
  mem : x ∈ s.table
  past : x.state ≠ .waiting
  unfinished : x.state ≠ .complete
  htag : (g x).htag = x.htag
  touched : (g x).touched = x.touched
  goesOn : (g x).state ≠ .waiting
  shape : (g x).shape = true
  entered : (g x).entered = true
  slots : (g x).holdSlot = true → x.holdSlot = true ∨ s.slotsInUse < 4
  before : x.mtag = some m ∨ x.mtag = none ∧ s.tag m = .free
  after : (∃ a, e = .active a ∧ a.owner = x.htag ∧ a.word = (g x).requestWord ∧ a.purpose = (g x).requestPurpose
      ∧ (g x).mtag = some m)
    ∨ (∀ a, e ≠ .active a) ∧ (g x).mtag = none
  orphaned : ∀ w, e.orphanWord? = some w → w ∈ x.touched ∧ (g x).state = .complete

namespace Handover

variable {s : State} {x : Txn} {m : MTag} {e : TagEntry} {g : Txn → Txn}

theorem mem_table (h : Handover s x m e g) (law : TableCore s) (z : Txn) :
    z ∈ ((s.setTag m e).updateTxn x.htag g).table ↔ z = g x ∨ z ∈ s.table ∧ z.htag ≠ x.htag :=
  DistinctTags.mem_updateTxn (s := s.setTag m e) law.distinct h.mem g z

theorem tag_before (h : Handover s x m e g) (law : TableCore s) :
    s.tag m = .free ∨ ∃ a, s.tag m = .active a ∧ a.owner = x.htag := by
  obtain mine | ⟨-, free⟩ := h.before
  · exact .inr (law.owner x h.mem m mine)
  · exact .inl free

theorem mem_orphanWords (h : Handover s x m e g) (law : TableCore s) (w : WordAddr) :
    w ∈ (s.setTag m e).orphanWords ↔ w ∈ s.orphanWords ∨ e.orphanWord? = some w := by
  simp only [State.mem_orphanWords, State.tag_setTag, TagEntry.orphanWord?_eq_some_iff]
  have old : ∀ o, s.tag m ≠ .orphaned o := by
    intro o orphan
    obtain free | ⟨a, active, -⟩ := h.tag_before law
    · rw [free] at orphan; cases orphan
    · rw [active] at orphan; cases orphan
  constructor
  · rintro ⟨n, o, tag, word⟩
    split at tag
    · exact .inr ⟨o, tag, word⟩
    · exact .inl ⟨n, o, tag, word⟩
  · rintro (⟨n, o, tag, word⟩ | ⟨o, rfl, word⟩)
    · refine ⟨n, o, ?_, word⟩
      rw [if_neg]
      · exact tag
      · rintro rfl
        exact old o tag
    · exact ⟨m, o, if_pos rfl, word⟩

/-- The update at a record of the table. -/
theorem update_eq (h : Handover s x m e g) (law : TableCore s) {y : Txn} (hy : y ∈ s.table) :
    (if y.htag == x.htag then g y else y) = g x ∧ y = x ∨ (if y.htag == x.htag then g y else y) = y ∧ y.htag ≠ x.htag := by
  by_cases same : y.htag = x.htag
  · obtain rfl := law.distinct.eq_of_htag hy h.mem same
    exact .inl ⟨if_pos (by simp), rfl⟩
  · exact .inr ⟨if_neg (by simpa using same), same⟩

theorem apart (h : Handover s x m e g) (law : TableCore s) :
    Apart (s.setTag m e).orphanWords ((s.setTag m e).updateTxn x.htag g).table := by
  rw [State.updateTxn_table]
  refine law.apart.map _ (fun y hy => ?_) (fun y hy => ?_) (fun y hy => ?_)
  · obtain ⟨new, rfl⟩ | ⟨new, -⟩ := h.update_eq law hy <;> rw [new]
    exact h.touched
  · obtain ⟨new, rfl⟩ | ⟨new, -⟩ := h.update_eq law hy <;> rw [new]
    · exact fun _ => h.past
    · exact id
  · obtain ⟨new, rfl⟩ | ⟨new, other⟩ := h.update_eq law hy <;> rw [new]
    · intro running _ w hw inside
      rw [h.touched] at hw
      obtain inside | inside := (h.mem_orphanWords law w).mp inside
      · exact law.apart.orphans y hy h.unfinished h.past w hw inside
      · exact running (h.orphaned w inside).2
    · intro running past w hw inside
      obtain inside | inside := (h.mem_orphanWords law w).mp inside
      · exact law.apart.orphans y hy running past w hw inside
      · have own := (h.orphaned w inside).1
        have symmetric : Std.Symm fun a b : Txn => b.ClearOf a.touched ∨ a.ClearOf b.touched := ⟨fun _ _ => Or.symm⟩
        have either : s.table.Pairwise (fun a b => b.ClearOf a.touched ∨ a.ClearOf b.touched) :=
          law.apart.records.imp fun h => .inl h
        obtain clear | clear := either.forall hy h.mem (fun same => other (congrArg Txn.htag same))
        · exact clear h.past w own hw
        · exact clear past w hw own

theorem heldBack (h : Handover s x m e g) (law : TableCore s) (held : HeldBack s.orphanWords s.table) :
    HeldBack (s.setTag m e).orphanWords ((s.setTag m e).updateTxn x.htag g).table := by
  rw [State.updateTxn_table]
  refine (held.map _ (fun y hy => ?_) (fun y hy => ?_)).mono fun w hw => (h.mem_orphanWords law w).mpr (.inl hw)
  · obtain ⟨new, rfl⟩ | ⟨new, -⟩ := h.update_eq law hy <;> rw [new]
    exact h.touched
  · obtain ⟨new, rfl⟩ | ⟨new, -⟩ := h.update_eq law hy <;> rw [new]
    · exact fun waiting => absurd waiting h.goesOn
    · exact id

theorem slotsBounded (h : Handover s x m e g) (law : TableCore s) :
    SlotsBounded ((s.setTag m e).updateTxn x.htag g) := by
  obtain ⟨older, younger, split⟩ := List.append_of_mem h.mem
  have slots := law.slots
  have few := h.slots
  unfold SlotsBounded State.slotsInUse at *
  rw [DistinctTags.updateTxn_split (s := s.setTag m e) law.distinct split]
  rw [split] at slots few
  simp only [List.filter_append, List.filter_cons, List.length_append] at slots few ⊢
  cases new : (g x).holdSlot <;> cases old : x.holdSlot <;> simp [new, old] at slots few ⊢ <;> omega

theorem distinctTags (h : Handover s x m e g) (law : TableCore s) :
    DistinctTags ((s.setTag m e).updateTxn x.htag g) := by
  have same : (s.table.map (fun y => if y.htag == x.htag then g y else y)).map Txn.htag = s.table.map Txn.htag := by
    rw [List.map_map]
    refine List.map_congr_left fun y hy => ?_
    obtain ⟨new, rfl⟩ | ⟨new, -⟩ := h.update_eq law hy <;> rw [Function.comp_apply, new]
    exact h.htag
  unfold DistinctTags
  rw [State.updateTxn_table, State.setTag_table, same]
  exact law.distinct

theorem owned (h : Handover s x m e g) (law : TableCore s) (n : MTag) (a : ActiveTag)
    (active : (s.setTag m e).tag n = .active a) :
    ∃ t ∈ ((s.setTag m e).updateTxn x.htag g).table,
      t.htag = a.owner ∧ t.mtag = some n ∧ a.word = t.requestWord ∧ a.purpose = t.requestPurpose := by
  rw [State.tag_setTag] at active
  split at active
  · next same =>
    subst same
    obtain ⟨a', rfl, owner, word, purpose, mine⟩ | ⟨none_, -⟩ := h.after
    · cases active
      exact ⟨g x, (h.mem_table law _).mpr (.inl rfl), h.htag.trans owner.symm, mine, word, purpose⟩
    · exact absurd active (none_ a)
  · next other =>
    obtain ⟨t, ht, name, mine, word, purpose⟩ := law.owned n a active
    refine ⟨t, (h.mem_table law _).mpr (.inr ⟨ht, fun same => ?_⟩), name, mine, word, purpose⟩
    obtain rfl := law.distinct.eq_of_htag ht h.mem same
    obtain own | ⟨own, -⟩ := h.before
    · exact other (Option.some.inj (own.symm.trans mine))
    · rw [own] at mine; cases mine

theorem owner (h : Handover s x m e g) (law : TableCore s) (z : Txn)
    (hz : z ∈ ((s.setTag m e).updateTxn x.htag g).table) (n : MTag) (mine : z.mtag = some n) :
    ∃ a, (s.setTag m e).tag n = .active a ∧ a.owner = z.htag := by
  obtain rfl | ⟨hz, other⟩ := (h.mem_table law z).mp hz
  · obtain ⟨a, rfl, owner, -, -, own⟩ | ⟨-, none_⟩ := h.after
    · obtain rfl := Option.some.inj (own.symm.trans mine)
      exact ⟨a, by simp, owner.trans h.htag.symm⟩
    · rw [none_] at mine; cases mine
  · obtain ⟨a, active, owner⟩ := law.owner z hz n mine
    refine ⟨a, ?_, owner⟩
    rw [State.tag_setTag, if_neg]
    · exact active
    · rintro rfl
      obtain free | ⟨a', active', owner'⟩ := h.tag_before law
      · rw [free] at active; cases active
      · rw [active] at active'
        cases active'
        exact other (owner.symm.trans owner')

theorem orphans_nodup (h : Handover s x m e g) (law : TableCore s) : (s.setTag m e).orphanWords.Nodup := by
  have old := (s.orphanWords_nodup_iff).mp law.orphans
  have fresh : ∀ n o o', e = .orphaned o → s.tag n = .orphaned o' → o.word ≠ o'.word := by
    intro n o o' new tag same
    have own := (h.orphaned o.word (by rw [new]; rfl)).1
    exact law.apart.orphans x h.mem h.unfinished h.past _ own ((s.mem_orphanWords _).mpr ⟨n, o', tag, same.symm⟩)
  refine (State.orphanWords_nodup_iff _).mpr fun i j o o' hi hj same => ?_
  rw [State.tag_setTag] at hi hj
  split at hi <;> split at hj
  · next a b => exact a.symm.trans b
  · exact absurd same (fresh j o o' hi hj)
  · exact absurd same.symm (fresh i o' o hj hi)
  · exact old i j o o' hi hj same

end Handover

/-- The queue after a handover: as it was, or with the record that became COMPLETE at its tail. -/
def QueueAfter (s : State) (x : Txn) (g : Txn → Txn) (queue : List HTag) : Prop :=
  (queue = s.deliveries ∧ (g x).state ≠ .complete) ∨ (queue = s.deliveries ++ [x.htag] ∧ (g x).state = .complete)

/-- A handover keeps the laws of the table, given what becomes of the delivery queue and the offer. -/
theorem TableSound.handover {s : State} {x : Txn} {m : MTag} {e : TagEntry} {g : Txn → Txn} (law : TableSound s)
    (h : Handover s x m e g) {queue : List HTag} (q : QueueAfter s x g queue) {offer : Option MTag}
    (offered : ∀ n, offer = some n ↔ ∃ a, (s.setTag m e).tag n = .active a ∧ a.taken = none)
    (ready : s.port = .ready) :
    TableSound { (s.setTag m e).updateTxn x.htag g with deliveries := queue, onOffer := offer } := by
  obtain ⟨core, held⟩ := (tableSound_iff s).mp law
  have member := h.mem_table core
  have fresh : x.htag ∉ s.deliveries := by
    intro inside
    obtain ⟨t, ht, same, complete⟩ := (core.queued _).mp inside
    rw [core.distinct.eq_of_htag ht h.mem same] at complete
    exact h.unfinished complete
  refine (tableSound_iff _).mpr ⟨⟨h.distinctTags core, h.slotsBounded core, fun z hz => ?shapes, h.apart core, ?queue,
    fun tag => ?queued, h.owned core, h.owner core, h.orphans_nodup core, offered, fun not => absurd ready not⟩,
    h.heldBack core held⟩
  case shapes =>
    obtain rfl | ⟨hz, -⟩ := (member z).mp hz
    · exact ⟨h.shape, h.entered⟩
    · exact core.shapes z hz
  case queue =>
    obtain ⟨rfl, -⟩ | ⟨rfl, -⟩ := q
    · exact core.queue
    · exact core.queue.append (List.nodup_singleton _) (by simpa using fresh)
  case queued =>
    have others : tag ∈ s.deliveries ↔ ∃ t ∈ s.table, t.htag ≠ x.htag ∧ t.htag = tag ∧ t.state = .complete := by
      rw [core.queued tag]
      constructor
      · rintro ⟨t, ht, name, complete⟩
        refine ⟨t, ht, fun same => ?_, name, complete⟩
        rw [core.distinct.eq_of_htag ht h.mem same] at complete
        exact h.unfinished complete
      · rintro ⟨t, ht, -, name, complete⟩
        exact ⟨t, ht, name, complete⟩
    have after : (∃ t ∈ ((s.setTag m e).updateTxn x.htag g).table, t.htag = tag ∧ t.state = .complete)
        ↔ (x.htag = tag ∧ (g x).state = .complete) ∨ tag ∈ s.deliveries := by
      rw [others]
      constructor
      · rintro ⟨t, ht, name, complete⟩
        obtain rfl | ⟨ht, other⟩ := (member t).mp ht
        · exact .inl ⟨h.htag.symm.trans name, complete⟩
        · exact .inr ⟨t, ht, other, name, complete⟩
      · rintro (⟨name, complete⟩ | ⟨t, ht, other, name, complete⟩)
        · exact ⟨g x, (member _).mpr (.inl rfl), h.htag.trans name, complete⟩
        · exact ⟨t, (member _).mpr (.inr ⟨ht, other⟩), name, complete⟩
    obtain ⟨rfl, running⟩ | ⟨rfl, complete⟩ := q
    · exact Iff.trans (by simp [running]) after.symm
    · exact Iff.trans (by simp [complete, or_comm, eq_comm]) after.symm

end Sys2Proof.Machine
end

section
/-! SUPPORT. The operations of chapters 4 and 5 on the table and the tags, and the laws they keep: grants, entries,
deliveries, answers and verdicts, late responses and the M-port reset. -/

namespace Sys2Proof.Machine

/-! ### Grants (R68 to R71) -/

theorem State.isCandidate_iff (s : State) (t : Txn) : s.isCandidate t = true ↔ Candidate s t := by
  unfold State.isCandidate Candidate slotCount
  cases t.state <;> simp

theorem State.mayGrant_iff (s : State) : s.mayGrant = true ↔ s.port = .ready ∧ s.onOffer = none := by
  simp [State.mayGrant]

theorem State.lowestFreeTag_free {s : State} {m : MTag} (h : s.lowestFreeTag = some m) : s.tag m = .free := by
  simpa using List.find?_some h

theorem State.oldestCandidate_some {s : State} {t : Txn} (h : s.oldestCandidate = some t) :
    t ∈ s.table ∧ s.isCandidate t = true := ⟨List.mem_of_find?_eq_some h, List.find?_some h⟩

/-- The M-tag's entry and the record's new fields at a grant of a verify read. -/
def verifyGrant (t : Txn) : ActiveTag := ⟨.verify, t.companion.getD t.word, t.htag, none⟩

/-- The M-tag's entry at a grant of a forward. -/
def forwardGrant (t : Txn) : ActiveTag := ⟨forwardPurpose t.kind, t.word, t.htag, none⟩

theorem State.grantVerify_eq (t : Txn) (m : MTag) (s : State) : s.grantVerify t m =
    { (s.setTag m (.active (verifyGrant t))).updateTxn t.htag
        (fun t => { t with state := .verifying, holdSlot := true, mtag := some m }) with
      deliveries := s.deliveries, onOffer := some m } := rfl

theorem State.grantForward_eq (t : Txn) (m : MTag) (s : State) : s.grantForward t m =
    { (s.setTag m (.active (forwardGrant t))).updateTxn t.htag (fun t => { t with state := .issued, mtag := some m }) with
      deliveries := s.deliveries, onOffer := some m } := rfl

@[simp] theorem State.grantTo_onOffer (t : Txn) (m : MTag) (s : State) : (s.grantTo t m).onOffer = some m := by
  unfold State.grantTo
  split <;> rfl

theorem State.offered_grant {s : State} (law : TableSound s) (unoffered : s.onOffer = none) (m : MTag) {a : ActiveTag}
    (untaken : a.taken = none) (n : MTag) :
    some m = some n ↔ ∃ b, (s.setTag m (.active a)).tag n = .active b ∧ b.taken = none := by
  rw [State.tag_setTag]
  by_cases same : m = n
  · subst same
    simp [untaken]
  · rw [if_neg same, ← law.offered n, unoffered]
    simp [same]

/-- A grant of a FREE tag to a candidate keeps the laws of the table. -/
theorem TableSound.grantTo {s : State} (law : TableSound s) {t : Txn} {m : MTag} (may : s.mayGrant = true)
    (free : s.tag m = .free) (ht : t ∈ s.table) (candidate : s.isCandidate t = true) : TableSound (s.grantTo t m) := by
  obtain ⟨ready, unoffered⟩ := s.mayGrant_iff.mp may
  obtain ⟨shape, entered⟩ := law.shapes t ht
  have noTag : t.mtag = none := by
    cases mine : t.mtag with
    | none => rfl
    | some n =>
      obtain state | state := Txn.state_of_mtag shape mine <;> simp [State.isCandidate, state] at candidate
  have candidate := (s.isCandidate_iff t).mp candidate
  have past : t.state ≠ .waiting ∧ t.state ≠ .complete := by
    obtain state | ⟨state, -⟩ := candidate <;> simp [state]
  unfold State.grantTo
  split
  · next verify =>
    obtain ⟨state, needs⟩ := verify
    have few : s.slotsInUse < 4 := by simpa [Candidate, state, needs] using candidate
    rw [s.grantVerify_eq]
    refine law.handover ⟨ht, past.1, past.2, rfl, rfl, by simp, ?_, entered, fun _ => .inr few, .inr ⟨noTag, free⟩,
      .inl ⟨_, rfl, rfl, rfl, rfl, rfl⟩, by simp [TagEntry.orphanWord?]⟩ (.inl ⟨rfl, by simp⟩) (State.offered_grant law unoffered m rfl) ready
    simp only [Txn.shape, state, noTag, Bool.and_eq_true, Bool.not_eq_true', Option.isNone_iff_eq_none] at shape ⊢
    simp [needs, shape.2]
  · next forward =>
    rw [s.grantForward_eq]
    refine law.handover ⟨ht, past.1, past.2, rfl, rfl, by simp, ?_, entered, .inl, .inr ⟨noTag, free⟩,
      .inl ⟨_, rfl, rfl, rfl, rfl, rfl⟩, by simp [TagEntry.orphanWord?]⟩ (.inl ⟨rfl, by simp⟩) (State.offered_grant law unoffered m rfl) ready
    obtain state | ⟨state, -⟩ := candidate
    · simp only [Txn.shape, state, Bool.and_eq_true] at shape ⊢
      simp [shape]
    · have needs : t.needsVerify = false := by simpa [state] using forward
      simp only [Txn.shape, state, Bool.and_eq_true, Bool.not_eq_true'] at shape ⊢
      simp [shape, needs]

/-- A request is on offer after a grant, so no grant is open. -/
theorem State.grantTo_settled (s : State) (t : Txn) (m : MTag) : ArbiterSettled (s.grantTo t m) := by
  intro may
  simp [State.mayGrant] at may

/-- The arbiter keeps the laws of the table and leaves no grant open (R68). -/
theorem TableSound.arbitrate {s : State} (law : TableSound s) : TableLaw s.arbitrate := by
  obtain ⟨t, m, may, oldest, lowest, h⟩ | ⟨none_, h⟩ := s.arbitrate_cases <;> rw [h]
  · obtain ⟨ht, candidate⟩ := State.oldestCandidate_some oldest
    exact ⟨law.grantTo may (State.lowestFreeTag_free lowest) ht candidate, s.grantTo_settled t m⟩
  · refine ⟨law, fun may free => ?_⟩
    obtain no | no | no := none_
    · rw [no] at may; cases may
    · exact no
    · rw [no] at free; cases free

/-! ### Entries and deliveries (R61, R78) -/

/-- A request that enters with a tag not in use keeps the laws of the table. -/
theorem TableSound.enter {s : State} (law : TableSound s) {req : HostRequest} {c : Classification} {v : Bool}
    {w : Option WordAddr} {note : Option Reason} (fresh : ∀ y ∈ s.table, y.htag ≠ req.tag)
    (watched : v = true → ∃ snap, c = .watchedWrite snap) : TableLaw (s.enter req c v w note) := by
  refine TableSound.arbitrate ?_
  obtain ⟨core, held⟩ := (tableSound_iff s).mp law
  set x := s.newTxn req c v w note with hx
  have state : x.state = if blockedBy s.heldWords x.touched then .waiting else .ready := rfl
  have entry : x.state = .waiting ∨ x.state = .ready := by
    rw [state]
    split
    · exact .inl rfl
    · exact .inr rfl
  have running : x.state ≠ .complete := by obtain h | h := entry <;> rw [h] <;> nofun
  have member : ∀ z, z ∈ s.table ++ [x] ↔ z ∈ s.table ∨ z = x := by simp
  have clear : x.state ≠ .waiting → ∀ u ∈ x.touched, u ∉ s.heldWords := by
    intro past
    rw [state] at past
    rw [← blockedBy_eq_false_iff]
    simpa using past
  refine (tableSound_iff _).mpr ⟨⟨?distinct, ?slots, fun z hz => ?shapes, ⟨?pairs, fun z hz => ?orphans⟩, core.queue,
    fun h => ?queued, fun m a active => ?owned, fun z hz m mine => ?owner, core.orphans, core.offered, core.resetting⟩,
    held.append_one fun waiting => ?held⟩
  case distinct =>
    unfold DistinctTags
    simp only [List.map_append, List.map_singleton]
    exact List.Nodup.append core.distinct (List.nodup_singleton _) (by simpa [hx, State.newTxn] using fresh)
  case slots =>
    have few := core.slots
    unfold SlotsBounded State.slotsInUse at *
    simpa [List.filter_append, hx, State.newTxn] using few
  case shapes =>
    obtain hz | rfl := (member z).mp hz
    · exact core.shapes z hz
    · refine ⟨?_, ?_⟩
      · unfold Txn.shape
        obtain h | h := entry <;> rw [h] <;> rfl
      · cases v with
        | false => simp [Txn.entered, hx, State.newTxn]
        | true =>
          obtain ⟨snap, rfl⟩ := watched rfl
          simp [Txn.entered, hx, State.newTxn]
  case pairs =>
    refine List.pairwise_append.mpr ⟨core.apart.records, List.pairwise_singleton _ _, fun y hy z hz => ?_⟩
    obtain rfl := List.mem_singleton.mp hz
    intro past u hu inside
    exact clear past u hu (List.mem_append.mpr (.inr (List.mem_flatMap.mpr ⟨y, hy, inside⟩)))
  case orphans =>
    obtain hz | rfl := (member z).mp hz
    · exact core.apart.orphans z hz
    · exact fun _ past u hu inside => clear past u hu (List.mem_append.mpr (.inl inside))
  case queued =>
    rw [core.queued h]
    simp only [member]
    constructor
    · rintro ⟨t, ht, name, complete⟩
      exact ⟨t, .inl ht, name, complete⟩
    · rintro ⟨t, ht | rfl, name, complete⟩
      · exact ⟨t, ht, name, complete⟩
      · exact absurd complete running
  case owned =>
    obtain ⟨t, ht, rest⟩ := core.owned m a active
    exact ⟨t, (member t).mpr (.inl ht), rest⟩
  case owner =>
    obtain hz | rfl := (member z).mp hz
    · exact core.owner z hz m mine
    · cases mine
  case held =>
    rw [state] at waiting
    have blocked : blockedBy s.heldWords x.touched = true := by
      by_contra not
      simp [not] at waiting
    exact (blockedBy_iff _ _).mp blocked

/-- The delivery of the record at the head of the queue keeps the laws of the table. -/
theorem TableLaw.deliver {s : State} (law : TableLaw s) : TableLaw s.deliver := by
  unfold State.deliver
  split
  · exact law
  next h rest queue =>
  obtain ⟨core, -⟩ := (tableSound_iff s).mp law.1
  refine TableSound.arbitrate (TableCore.promote ?_)
  obtain ⟨distinct, slots, shapes, apart, nodup, queued, owned, owner, orphans, offered, resetting⟩ := core
  rw [queue] at nodup queued
  obtain ⟨fresh, nodup⟩ := List.nodup_cons.mp nodup
  have member : ∀ z, z ∈ s.table.filter (fun t => t.htag != h) ↔ z ∈ s.table ∧ z.htag ≠ h := by simp
  have delivered : ∀ x ∈ s.table, x.htag = h → x.state = .complete := by
    intro x hx name
    obtain ⟨t, ht, same, complete⟩ := (queued h).mp (by simp)
    rwa [DistinctTags.eq_of_htag distinct hx ht (name.trans same.symm)]
  refine ⟨distinct.sublist (List.filter_sublist.map _), ?slots, fun z hz => shapes z ((member z).mp hz).1,
    ⟨apart.records.filter _, fun z hz => apart.orphans z ((member z).mp hz).1⟩, nodup, fun g => ?queued,
    fun m a active => ?owned, fun z hz => owner z ((member z).mp hz).1, orphans, offered, resetting⟩
  case slots => exact Nat.le_trans ((List.filter_sublist.filter _).length_le) slots
  case queued =>
    simp only [member]
    constructor
    · intro inside
      obtain ⟨t, ht, name, complete⟩ := (queued g).mp (List.mem_cons_of_mem _ inside)
      exact ⟨t, ⟨ht, fun same => fresh (same.symm.trans name ▸ inside)⟩, name, complete⟩
    · rintro ⟨t, ⟨ht, other⟩, name, complete⟩
      exact (List.mem_cons.mp ((queued g).mpr ⟨t, ht, name, complete⟩)).resolve_left (fun same => other (name.trans same))
  case owned =>
    obtain ⟨t, ht, name, mine, rest⟩ := owned m a active
    refine ⟨t, (member t).mpr ⟨ht, fun same => ?_⟩, name, mine, rest⟩
    obtain state | state := Txn.state_of_mtag (shapes t ht).1 mine <;> rw [delivered t ht same] at state <;> cases state

/-! ### The offer is taken (R86) -/

theorem TableLaw.takeOffer {s : State} (law : TableLaw s) : TableLaw s.takeOffer := by
  unfold State.takeOffer
  split
  · exact law
  next m offer =>
  obtain ⟨a, active, untaken⟩ := (law.1.offered m).mp offer
  rw [active]
  dsimp only
  refine TableSound.arbitrate ?_
  obtain ⟨distinct, slots, shapes, ordered, queue, queued, owned, owner, orphans, offered, resetting⟩ := law.1
  set e : ActiveTag := { a with taken := some (s.timeBase, s.timing.limit a.purpose) } with he
  have words : (s.setTag m (.active e)).orphanWords = s.orphanWords := by
    refine State.orphanWords_congr fun n => ?_
    rw [State.tag_setTag]
    split
    · next same => rw [← same, active]; rfl
    · rfl
  refine ⟨distinct, slots, shapes, ?_, queue, queued, fun n b h => ?_, fun t ht n mine => ?_, ?_, fun n => ?_, fun not => ?_⟩
  · change tableOrdered (s.setTag m (.active e)).orphanWords [] s.table = true
    rwa [words]
  · change (s.setTag m (.active e)).tag n = .active b at h
    rw [State.tag_setTag] at h
    split at h
    · next same =>
      cases h
      exact same ▸ owned m a active
    · exact owned n b h
  · change ∃ b, (s.setTag m (.active e)).tag n = .active b ∧ b.owner = t.htag
    obtain ⟨b, h, name⟩ := owner t ht n mine
    rw [State.tag_setTag]
    split
    · next same =>
      rw [← same, active] at h
      cases h
      exact ⟨e, rfl, name⟩
    · exact ⟨b, h, name⟩
  · change (s.setTag m (.active e)).orphanWords.Nodup
    rwa [words]
  · change none = some n ↔ ∃ b, (s.setTag m (.active e)).tag n = .active b ∧ b.taken = none
    rw [State.tag_setTag]
    split
    · simp [he]
    · next other =>
      rw [← offered n, offer]
      simp [other]
  · rw [resetting not m] at active
    cases active

/-! ### Answers and verdicts (R72 to R76) -/

/-- The record that an ACTIVE tag serves. -/
theorem TableSound.served {s : State} (law : TableSound s) {m : MTag} {a : ActiveTag} (active : s.tag m = .active a) :
    ∃ x, s.txn? a.owner = some x ∧ x ∈ s.table ∧ x.htag = a.owner ∧ x.mtag = some m ∧ a.word = x.requestWord
      ∧ a.purpose = x.requestPurpose := by
  obtain ⟨x, hx, name, rest⟩ := law.owned m a active
  exact ⟨x, name ▸ DistinctTags.txn?_eq law.distinct hx, hx, name, rest⟩

/-- The word of a request in progress is one of the record's touched words. -/
theorem Txn.requestWord_mem_touched {x : Txn} (entered : x.entered = true) : x.requestWord ∈ x.touched := by
  simp only [Txn.entered, Bool.and_eq_true, beq_iff_eq] at entered
  rw [entered.1]
  have own : x.word ∈ touchedWords x.word x.companion ∧ x.companion.getD x.word ∈ touchedWords x.word x.companion := by
    unfold touchedWords
    split
    · split <;> simp_all
    · simp_all
  unfold Txn.requestWord
  split
  · exact own.2
  · exact own.1

/-- What an answer makes of a record: its response is formed, and nothing else changes but the verify word. -/
def Answers (g : Txn → Txn) : Prop := ∀ y, (g y).response.isSome = true
  ∧ g y = { y with state := .complete, mtag := none, response := (g y).response, verifyWord := (g y).verifyWord }

/-- What a verdict that goes on makes of a record. -/
def GoesOn (g : Txn → Txn) : Prop := ∀ y,
  g y = { y with state := .issuePending, mtag := none, passNote := (g y).passNote, verifyWord := (g y).verifyWord }

theorem State.offered_freed {s : State} (law : TableSound s) {m : MTag} {a : ActiveTag} (active : s.tag m = .active a)
    (taken : a.taken ≠ none) {e : TagEntry} (gone : ∀ b, e ≠ .active b) (n : MTag) :
    s.onOffer = some n ↔ ∃ b, (s.setTag m e).tag n = .active b ∧ b.taken = none := by
  rw [State.tag_setTag, law.offered n]
  split
  · next same =>
    subst same
    constructor
    · rintro ⟨b, h, untaken⟩
      rw [active] at h
      cases h
      exact absurd untaken taken
    · rintro ⟨b, h, -⟩
      exact absurd h (gone b)
  · rfl

/-- The port is READY while a tag is ACTIVE (R98). -/
theorem TableSound.port_ready {s : State} (law : TableSound s) {m : MTag} {a : ActiveTag} (active : s.tag m = .active a) :
    s.port = .ready := by
  by_contra not
  rw [law.resetting not m] at active
  cases active

/-- The answer to the record that a taken tag serves, with the tag freed or orphaned. -/
theorem TableSound.answered {s : State} (law : TableSound s) {m : MTag} {a : ActiveTag} {x : Txn}
    (active : s.tag m = .active a) (taken : a.taken ≠ none) (found : s.txn? a.owner = some x) {e : TagEntry}
    (he : e = .free ∨ e = .orphaned (orphanOf a x)) {g : Txn → Txn} (hg : Answers g) :
    TableSound { (s.setTag m e).updateTxn x.htag g with deliveries := s.deliveries ++ [x.htag] } := by
  obtain ⟨x', found', hx, -, mine, word, -⟩ := law.served active
  obtain rfl := Option.some.inj (found.symm.trans found')
  obtain ⟨shape, entered⟩ := law.shapes x hx
  obtain ⟨response, new⟩ := hg x
  have gone : ∀ b, e ≠ .active b := by obtain rfl | rfl := he <;> nofun
  have state := Txn.state_of_mtag shape mine
  have slot := Txn.holdSlot_of_mtag shape mine
  have handover : Handover s x m e g :=
    { mem := hx
      past := by obtain h | h := state <;> rw [h] <;> nofun
      unfinished := by obtain h | h := state <;> rw [h] <;> nofun
      htag := by rw [new]
      touched := by rw [new]
      goesOn := by rw [new]; simp
      shape := by rw [new]; simp [Txn.shape, slot, response]
      entered := by rw [new]; exact entered
      slots := by rw [new]; exact .inl
      before := .inl mine
      after := .inr ⟨gone, by rw [new]⟩
      orphaned := by
        intro w orphan
        obtain rfl | rfl := he
        · cases orphan
        · obtain rfl : a.word = w := Option.some.inj orphan
          exact ⟨word ▸ Txn.requestWord_mem_touched entered, by rw [new]⟩ }
  exact law.handover handover (.inr ⟨rfl, by rw [new]⟩) (State.offered_freed law active taken gone) (law.port_ready active)

/-- The record that a taken VERIFY tag serves goes on to ISSUE_PENDING, and the tag is freed. -/
theorem TableSound.verified {s : State} (law : TableSound s) {m : MTag} {a : ActiveTag} {x : Txn}
    (active : s.tag m = .active a) (taken : a.taken ≠ none) (found : s.txn? a.owner = some x)
    (purpose : a.purpose = .verify) {g : Txn → Txn} (hg : GoesOn g) :
    TableSound ((s.setTag m .free).updateTxn x.htag g) := by
  obtain ⟨x', found', hx, -, mine, -, request⟩ := law.served active
  obtain rfl := Option.some.inj (found.symm.trans found')
  obtain ⟨shape, entered⟩ := law.shapes x hx
  have new := hg x
  have state : x.state = .verifying := by
    obtain h | h := Txn.state_of_mtag shape mine
    · exact h
    · rw [purpose] at request
      simp only [Txn.requestPurpose, h] at request
      cases kind : x.kind <;> rw [kind] at request <;> cases request
  have handover : Handover s x m .free g :=
    { mem := hx
      past := by rw [state]; nofun
      unfinished := by rw [state]; nofun
      htag := by rw [new]
      touched := by rw [new]
      goesOn := by rw [new]; simp
      shape := by
        rw [new]
        simp only [Txn.shape, state, Bool.and_eq_true] at shape ⊢
        simp [shape]
      entered := by rw [new]; exact entered
      slots := by rw [new]; exact .inl
      before := .inl mine
      after := .inr ⟨nofun, by rw [new]⟩
      orphaned := by simp [TagEntry.orphanWord?] }
  exact law.handover handover (.inl ⟨rfl, by rw [new]; simp⟩) (State.offered_freed law active taken nofun)
    (law.port_ready active)

/-! ### Late responses (R93) -/

theorem TableSound.freeOrphan {s : State} (law : TableSound s) {m : MTag} {o : OrphanTag}
    (orphan : s.tag m = .orphaned o) : TableCore (s.setTag m .free) := by
  obtain ⟨⟨distinct, slots, shapes, apart, queue, queued, owned, owner, orphans, offered, resetting⟩, -⟩ :=
    (tableSound_iff s).mp law
  have active : ∀ n a, (s.setTag m .free).tag n = .active a ↔ s.tag n = .active a := by
    intro n a
    rw [State.tag_setTag]
    split
    · next same => rw [← same, orphan]; simp
    · rfl
  have fewer : ∀ n o', (s.setTag m .free).tag n = .orphaned o' → s.tag n = .orphaned o' := by
    intro n o' h
    rw [State.tag_setTag] at h
    split at h
    · cases h
    · exact h
  have words : (s.setTag m .free).orphanWords ⊆ s.orphanWords := by
    intro w hw
    obtain ⟨n, o', tag, word⟩ := (State.mem_orphanWords _ w).mp hw
    exact (s.mem_orphanWords w).mpr ⟨n, o', fewer n o' tag, word⟩
  refine ⟨distinct, slots, shapes, ⟨apart.records, fun x hx running past w hw inside => ?_⟩, queue, queued,
    fun n a h => owned n a ((active n a).mp h), fun t ht n mine => ?_, ?_, fun n => ?_, fun not n => ?_⟩
  · exact apart.orphans x hx running past w hw (words inside)
  · obtain ⟨a, h, name⟩ := owner t ht n mine
    exact ⟨a, (active n a).mpr h, name⟩
  · exact (State.orphanWords_nodup_iff _).mpr fun i j o o' hi hj =>
      s.orphanWords_nodup_iff.mp orphans i j o o' (fewer i o hi) (fewer j o' hj)
  · simp only [active, ← offered n, State.setTag_onOffer]
  · rw [State.tag_setTag]
    split
    · rfl
    · exact resetting not n

/-- The oldest candidate before a promotion is a candidate after it. -/
theorem State.candidate_promote {s : State} {t : Txn} (h : s.oldestCandidate = some t) :
    t ∈ s.promote.table ∧ s.promote.isCandidate t = true := by
  obtain ⟨ht, candidate⟩ := State.oldestCandidate_some h
  refine ⟨mem_promoteFrom_of_not_waiting ht fun waiting => ?_, ?_⟩
  · simp [State.isCandidate, waiting] at candidate
  · unfold State.isCandidate at candidate ⊢
    rwa [s.promote_slotsInUse]

/-- The freeing of an orphan: the promotion, and one grant to a candidate before it or after it (R69). -/
theorem TableCore.promoteAndArbitrate {s : State} (law : TableCore s) : TableLaw s.promoteAndArbitrate := by
  have sound := law.promote
  unfold State.promoteAndArbitrate
  dsimp only
  split
  · next before now m hb hn hm =>
    split
    · next free =>
      simp only [Bool.and_eq_true] at free
      have counted : TableSound { s.promote with choices := s.promote.choices + 1 } := sound.congr rfl
      split
      · obtain ⟨member, candidate⟩ := State.candidate_promote hb
        exact ⟨counted.grantTo free.1 (State.lowestFreeTag_free hm) member candidate, State.grantTo_settled _ _ _⟩
      · obtain ⟨member, candidate⟩ := State.oldestCandidate_some hn
        exact ⟨counted.grantTo free.1 (State.lowestFreeTag_free hm) member candidate, State.grantTo_settled _ _ _⟩
    · exact sound.arbitrate
  · exact sound.arbitrate

/-! ### The M-port reset and the resets of the unit (R76, R80, R96 to R99) -/

theorem State.mtags_free_tag {s : State} (h : s.mtags = Vector.replicate 8 .free) (m : MTag) : s.tag m = .free := by
  simp [State.tag, h]

theorem State.orphanWords_of_free {s : State} (h : ∀ m, s.tag m = .free) : s.orphanWords = [] := by
  rw [s.orphanWords_eq, List.filterMap_eq_nil_iff]
  intro m _
  rw [h]
  rfl

theorem abortTxn_htag (t : Txn) : (abortTxn t).htag = t.htag := by unfold abortTxn; split <;> rfl
theorem abortTxn_touched (t : Txn) : (abortTxn t).touched = t.touched := by unfold abortTxn; split <;> rfl
theorem abortTxn_holdSlot (t : Txn) : (abortTxn t).holdSlot = t.holdSlot := by unfold abortTxn; split <;> rfl
theorem abortTxn_mtag (t : Txn) : (abortTxn t).mtag = none := by
  unfold abortTxn
  split
  · rfl
  · next h => simpa using h

theorem abortTxn_entered (t : Txn) : (abortTxn t).entered = t.entered := by unfold abortTxn; split <;> rfl

theorem abortTxn_waiting {t : Txn} (shape : t.shape = true) : (abortTxn t).state = .waiting ↔ t.state = .waiting := by
  unfold abortTxn
  split
  · next h =>
    obtain ⟨m, mine⟩ := Option.isSome_iff_exists.mp h
    obtain h | h := Txn.state_of_mtag shape mine <;> simp [h]
  · rfl

theorem abortTxn_complete (t : Txn) : (abortTxn t).state = .complete ↔ t.mtag.isSome = true ∨ t.state = .complete := by
  unfold abortTxn
  split
  · next h => simp [h]
  · next h => simp [h]

theorem abortTxn_shape {t : Txn} (shape : t.shape = true) : (abortTxn t).shape = true := by
  unfold abortTxn
  split
  · next h =>
    obtain ⟨m, mine⟩ := Option.isSome_iff_exists.mp h
    simp [Txn.shape, Txn.holdSlot_of_mtag shape mine]
  · exact shape

/-- The state in which the assertion of the M-port reset leaves the table and the port, before a promotion (R97). -/
def State.abortAll (s : State) : State :=
  { s with
    table := s.table.map abortTxn
    deliveries := s.deliveries ++ (s.table.filter (fun t => t.mtag.isSome)).map Txn.htag
    mtags := Vector.replicate 8 .free
    onOffer := none
    port := .resetting (after s.timeBase mportResetLength) (s.table.filter (fun t => t.mtag.isSome)).length }

theorem State.startMportReset_eq (s : State) :
    s.startMportReset = s.abortAll.promote.performAll (s.refusalChains (abortedRegions s.table)) := rfl

theorem TableSound.abortAll {s : State} (law : TableSound s) : TableCore s.abortAll := by
  obtain ⟨⟨distinct, slots, shapes, apart, queue, queued, owned, owner, orphans, offered, resetting⟩, -⟩ :=
    (tableSound_iff s).mp law
  have free : ∀ m, s.abortAll.tag m = .free := State.mtags_free_tag rfl
  have words := State.orphanWords_of_free free
  have aborted : ∀ h, h ∈ (s.table.filter (fun t => t.mtag.isSome)).map Txn.htag
      ↔ ∃ t ∈ s.table, t.mtag.isSome = true ∧ t.htag = h := by
    intro h
    simp [and_assoc]
  have tags : (s.table.map abortTxn).map Txn.htag = s.table.map Txn.htag := by
    rw [List.map_map]
    exact List.map_congr_left fun t _ => abortTxn_htag t
  refine ⟨?distinct, ?slots, fun z hz => ?shapes, ?apart, ?queue, fun h => ?queued, fun m a active => ?owned,
    fun z hz m mine => ?owner, by rw [words]; exact List.nodup_nil, fun m => ?offered, fun _ => free⟩
  case distinct =>
    change ((s.table.map abortTxn).map Txn.htag).Nodup
    rwa [tags]
  case slots =>
    change ((s.table.map abortTxn).filter (fun t => t.holdSlot)).length ≤ 4
    rw [List.filter_map, List.length_map, show ((fun t : Txn => t.holdSlot) ∘ abortTxn) = fun t => t.holdSlot from
      funext abortTxn_holdSlot]
    exact slots
  case shapes =>
    obtain ⟨t, ht, rfl⟩ := List.mem_map.mp hz
    exact ⟨abortTxn_shape (shapes t ht).1, (abortTxn_entered t).trans (shapes t ht).2⟩
  case apart =>
    rw [words]
    exact apart.map abortTxn (fun t _ => abortTxn_touched t)
      (fun t ht past waiting => past ((abortTxn_waiting (shapes t ht).1).mpr waiting))
      (fun _ _ _ _ _ _ => List.not_mem_nil)
  case queue =>
    refine queue.append (distinct.sublist (List.filter_sublist.map _)) fun h old new => ?_
    obtain ⟨t, ht, name, complete⟩ := (queued h).mp old
    obtain ⟨t', ht', some_, name'⟩ := (aborted h).mp new
    obtain rfl := DistinctTags.eq_of_htag distinct ht ht' (name.trans name'.symm)
    obtain ⟨m, mine⟩ := Option.isSome_iff_exists.mp some_
    obtain state | state := Txn.state_of_mtag (shapes t ht).1 mine <;> rw [complete] at state <;> cases state
  case queued =>
    change h ∈ s.deliveries ++ _ ↔ ∃ z ∈ s.table.map abortTxn, z.htag = h ∧ z.state = .complete
    rw [List.mem_append, queued h, aborted h]
    constructor
    · rintro (⟨t, ht, name, complete⟩ | ⟨t, ht, some_, name⟩)
      · exact ⟨_, List.mem_map_of_mem ht, (abortTxn_htag t).trans name, (abortTxn_complete t).mpr (.inr complete)⟩
      · exact ⟨_, List.mem_map_of_mem ht, (abortTxn_htag t).trans name, (abortTxn_complete t).mpr (.inl some_)⟩
    · rintro ⟨_, hz, name, complete⟩
      obtain ⟨t, ht, rfl⟩ := List.mem_map.mp hz
      rw [abortTxn_htag] at name
      obtain some_ | complete := (abortTxn_complete t).mp complete
      · exact .inr ⟨t, ht, some_, name⟩
      · exact .inl ⟨t, ht, name, complete⟩
  case owned =>
    rw [free m] at active
    cases active
  case owner =>
    obtain ⟨t, -, rfl⟩ := List.mem_map.mp hz
    rw [abortTxn_mtag] at mine
    cases mine
  case offered =>
    change none = some m ↔ _
    simp [free m]

theorem TableLaw.startMportReset {s : State} (law : TableLaw s) : TableLaw s.startMportReset := by
  have reset : TableLaw s.abortAll.promote := by
    refine ⟨law.1.abortAll.promote, fun may => ?_⟩
    have ready := (State.mayGrant_iff _).mp may
    cases ready.1
  rw [s.startMportReset_eq]
  exact reset.congr (by simp [State.trafficPart])

theorem TableSound.endMportReset {s : State} (law : TableSound s) : TableLaw (State.arbitrate { s with port := .ready }) := by
  obtain ⟨distinct, slots, shapes, ordered, queue, queued, owned, owner, orphans, offered, -⟩ := law
  exact TableSound.arbitrate
    ⟨distinct, slots, shapes, ordered, queue, queued, owned, owner, orphans, offered, fun not => absurd rfl not⟩

/-- An empty table with no tag in use. -/
theorem tableLaw_empty {s : State} (table : s.table = []) (deliveries : s.deliveries = [])
    (tags : s.mtags = Vector.replicate 8 .free) (offer : s.onOffer = none) : TableLaw s := by
  have free := State.mtags_free_tag tags
  refine ⟨(tableSound_iff s).mpr ⟨⟨?_, ?_, ?_, ⟨?_, ?_⟩, ?_, fun h => ?_, fun m a active => ?_, ?_, ?_, fun m => ?_,
    fun _ => free⟩, ?_⟩, fun _ _ => ?_⟩
  · simp [DistinctTags, table]
  · simp [SlotsBounded, State.slotsInUse, table]
  · simp [table]
  · simp [table]
  · simp [table]
  · simp [deliveries]
  · simp [deliveries, table]
  · rw [free m] at active
    cases active
  · simp [table]
  · rw [State.orphanWords_of_free free]
    exact List.nodup_nil
  · simp [offer, free m]
  · rw [table]
    trivial
  · simp [State.oldestCandidate, table]

end Sys2Proof.Machine
end

section
/-! SUPPORT and PROOFS. What each command makes of the table and the tags (`Moves`), and the two laws that follow for
every command: the table stays sound (O58), and records keep what they were entered with (O14). -/

namespace Sys2Proof.Machine

/-! ### What leaves the table and the tags alone -/

@[simp] theorem State.latch_trafficPart (s : State) (c : Cause) : (s.latch c).trafficPart = s.trafficPart := rfl

@[simp] theorem State.appendEvent_trafficPart (s : State) (e : Event) :
    (s.appendEvent e).trafficPart = s.trafficPart := by simp [State.trafficPart]

@[simp] theorem State.performAll_trafficPart (s : State) (cs : List (List Request)) :
    (s.performAll cs).trafficPart = s.trafficPart := by simp [State.trafficPart]

@[simp] theorem State.giveCompletion_trafficPart (s : State) (n : Notice) :
    (s.giveCompletion n).trafficPart = s.trafficPart := by simp [State.trafficPart]

@[simp] theorem State.answer_trafficPart (s : State) (req : HostRequest) (status : HostStatus) (d : Word) :
    (s.answer req status d).trafficPart = s.trafficPart := rfl

@[simp] theorem State.refuseAtArrival_trafficPart (s : State) (req : HostRequest) (status : HostStatus) (e : Event)
    (i : RegionIndex) : (s.refuseAtArrival req status e i).trafficPart = s.trafficPart := by
  simp [State.refuseAtArrival]

@[simp] theorem State.removeHead_trafficPart (s : State) : s.removeHead.trafficPart = s.trafficPart := by
  rw [s.removeHead_touches]; rfl

/-! ### The moves -/

/-- The snapshot is the one that a write to a watched word takes of its governing entry (R30). -/
def Snapshots (req : HostRequest) (s : State) (snap : Snapshot) : Prop :=
  s.mode = .enforce ∧ req.kind = .write ∧ ∃ i r, s.governing req.word = some (i, r) ∧ snap = s.snapshot i r

/-- What a command makes of the table and the tags, up to the rest of the state. -/
inductive Moves (i : Instr) (s : State) : State → Prop
  | same : Moves i s s
  | enter (req : HostRequest) (c : Classification) (v : Bool) (w : Option WordAddr) (note : Option Reason)
      (arrival : i = .arrival req) (fresh : ∀ y ∈ s.table, y.htag ≠ req.tag)
      (watched : v = true → ∃ snap, c = .watchedWrite snap)
      (origin : ∀ snap, c = .watchedWrite snap → Snapshots req s snap) : Moves i s (s.enter req c v w note)
  | deliver : Moves i s s.deliver
  | takeOffer : Moves i s s.takeOffer
  | answered {m : MTag} {a : ActiveTag} {x : Txn} {e : TagEntry} {g : Txn → Txn} (active : s.tag m = .active a)
      (taken : a.taken ≠ none) (found : s.txn? a.owner = some x) (he : e = .free ∨ e = .orphaned (orphanOf a x))
      (hg : Answers g) :
      Moves i s (State.arbitrate { (s.setTag m e).updateTxn x.htag g with deliveries := s.deliveries ++ [x.htag] })
  | verified {m : MTag} {a : ActiveTag} {x : Txn} {g : Txn → Txn} (active : s.tag m = .active a) (taken : a.taken ≠ none)
      (found : s.txn? a.owner = some x) (purpose : a.purpose = .verify) (hg : GoesOn g) :
      Moves i s (State.arbitrate ((s.setTag m .free).updateTxn x.htag g))
  | unserved {m : MTag} {a : ActiveTag} (active : s.tag m = .active a)
      (lost : ∀ x, s.txn? a.owner = some x → a.purpose = .verify ∧ ∀ snap, x.classification ≠ .watchedWrite snap)
      (u : State) (hu : u = s.setTag m .free ∨ u = (s.setTag m .free).arbitrate) : Moves i s u
  | late {m : MTag} {o : OrphanTag} (orphan : s.tag m = .orphaned o) : Moves i s (s.setTag m .free).promoteAndArbitrate
  | startReset : Moves i s s.startMportReset
  | endReset : Moves i s (State.arbitrate { s with port := .ready })
  | clear (u : State) (table : u.table = []) (deliveries : u.deliveries = []) (tags : u.mtags = Vector.replicate 8 .free)
      (offer : u.onOffer = none) : Moves i s u

/-- A command moves the table and the tags to those of a state that `Moves` tells of. -/
def MovesTo (i : Instr) (s t : State) : Prop := ∃ u, Moves i s u ∧ t.trafficPart = u.trafficPart

theorem MovesTo.stays {i : Instr} {s t : State} (h : t.trafficPart = s.trafficPart) : MovesTo i s t := ⟨s, .same, h⟩

theorem Moves.to {i : Instr} {s u t : State} (h : Moves i s u) (same : t.trafficPart = u.trafficPart) : MovesTo i s t :=
  ⟨u, h, same⟩

/-- A VERIFY tag in a sound table serves a watched write. -/
theorem TableSound.classified {s : State} (law : TableSound s) {m : MTag} {a : ActiveTag} (active : s.tag m = .active a)
    (lost : ∀ x, s.txn? a.owner = some x → a.purpose = .verify ∧ ∀ snap, x.classification ≠ .watchedWrite snap) :
    False := by
  obtain ⟨x, found, hx, -, mine, -, request⟩ := law.served active
  obtain ⟨purpose, unwatched⟩ := lost x found
  obtain ⟨shape, entered⟩ := law.shapes x hx
  obtain state | state := Txn.state_of_mtag shape mine
  · have needs : x.needsVerify = true := by
      simp only [Txn.shape, state, Bool.and_eq_true] at shape
      exact shape.1.1.1
    simp only [Txn.entered, needs, Bool.not_true, Bool.false_or, Bool.and_eq_true] at entered
    cases classification : x.classification with
    | watchedWrite snap => exact unwatched snap classification
    | watchedRead _ _ => simp [classification] at entered
    | unwatched => simp [classification] at entered
  · rw [purpose] at request
    simp only [Txn.requestPurpose, state] at request
    cases kind : x.kind <;> rw [kind] at request <;> cases request

theorem Moves.tableLaw {i : Instr} {s u : State} (h : Moves i s u) (law : TableLaw s) : TableLaw u := by
  cases h with
  | same => exact law
  | enter req c v w note arrival fresh watched _ => exact law.1.enter fresh watched
  | deliver => exact law.deliver
  | takeOffer => exact law.takeOffer
  | answered active taken found he hg => exact (law.1.answered active taken found he hg).arbitrate
  | verified active taken found purpose hg => exact (law.1.verified active taken found purpose hg).arbitrate
  | unserved active lost u hu => exact (law.1.classified active lost).elim
  | late orphan => exact (law.1.freeOrphan orphan).promoteAndArbitrate
  | startReset => exact law.startMportReset
  | endReset => exact law.1.endMportReset
  | clear u table deliveries tags offer => exact tableLaw_empty table deliveries tags offer

/-! ### What a record was entered with (R61) -/

/-- The second record carries what the first was entered with. -/
structure Txn.SameEntry (y x : Txn) : Prop where
  htag : y.htag = x.htag
  kind : y.kind = x.kind
  word : y.word = x.word
  lanes : y.lanes = x.lanes
  data : y.data = x.data
  classification : y.classification = x.classification
  needsVerify : y.needsVerify = x.needsVerify
  touched : y.touched = x.touched
  companion : y.companion = x.companion

theorem Txn.SameEntry.refl (x : Txn) : x.SameEntry x := ⟨rfl, rfl, rfl, rfl, rfl, rfl, rfl, rfl, rfl⟩

theorem Txn.SameEntry.trans {x y z : Txn} (h : x.SameEntry y) (k : y.SameEntry z) : x.SameEntry z :=
  ⟨h.htag.trans k.htag, h.kind.trans k.kind, h.word.trans k.word, h.lanes.trans k.lanes, h.data.trans k.data,
    h.classification.trans k.classification, h.needsVerify.trans k.needsVerify, h.touched.trans k.touched,
    h.companion.trans k.companion⟩

/-- Every record of the second table carries what one of the first was entered with. -/
def EntriesFrom (l l' : List Txn) : Prop := ∀ x ∈ l', ∃ y ∈ l, y.SameEntry x

theorem EntriesFrom.refl (l : List Txn) : EntriesFrom l l := fun x hx => ⟨x, hx, .refl x⟩

theorem EntriesFrom.trans {a b c : List Txn} (h : EntriesFrom a b) (k : EntriesFrom b c) : EntriesFrom a c := by
  intro x hx
  obtain ⟨y, hy, same⟩ := k x hx
  obtain ⟨z, hz, same'⟩ := h y hy
  exact ⟨z, hz, same'.trans same⟩

theorem EntriesFrom.map {l : List Txn} (g : Txn → Txn) (h : ∀ y : Txn, y.SameEntry (g y)) : EntriesFrom l (l.map g) := by
  intro x hx
  obtain ⟨y, hy, rfl⟩ := List.mem_map.mp hx
  exact ⟨y, hy, h y⟩

theorem EntriesFrom.updateTxn (s : State) (h : HTag) {g : Txn → Txn} (hg : ∀ y : Txn, y.SameEntry (g y)) :
    EntriesFrom s.table (s.updateTxn h g).table := by
  refine EntriesFrom.map _ fun y => ?_
  split
  · exact hg y
  · exact .refl y

theorem EntriesFrom.grantTo (s : State) (t : Txn) (m : MTag) : EntriesFrom s.table (s.grantTo t m).table := by
  unfold State.grantTo
  split
  · exact EntriesFrom.updateTxn (s.setTag m _) t.htag fun _ => ⟨rfl, rfl, rfl, rfl, rfl, rfl, rfl, rfl, rfl⟩
  · exact EntriesFrom.updateTxn (s.setTag m _) t.htag fun _ => ⟨rfl, rfl, rfl, rfl, rfl, rfl, rfl, rfl, rfl⟩

theorem EntriesFrom.arbitrate (s : State) : EntriesFrom s.table s.arbitrate.table := by
  obtain ⟨t, m, -, -, -, h⟩ | ⟨-, h⟩ := s.arbitrate_cases <;> rw [h]
  · exact .grantTo s t m
  · exact .refl _

theorem EntriesFrom.promote (s : State) : EntriesFrom s.table s.promote.table := by
  intro x hx
  obtain hx | ⟨y, hy, -, rfl⟩ := State.mem_promote_table hx
  · exact ⟨x, hx, .refl x⟩
  · exact ⟨y, hy, rfl, rfl, rfl, rfl, rfl, rfl, rfl, rfl, rfl⟩

theorem EntriesFrom.promoteAndArbitrate (s : State) : EntriesFrom s.table s.promoteAndArbitrate.table := by
  have promoted := EntriesFrom.promote s
  unfold State.promoteAndArbitrate
  dsimp only
  split
  · split
    · split
      · exact promoted.trans (.grantTo { s.promote with choices := s.promote.choices + 1 } _ _)
      · exact promoted.trans (.grantTo { s.promote with choices := s.promote.choices + 1 } _ _)
    · exact promoted.trans (.arbitrate _)
  · exact promoted.trans (.arbitrate _)

theorem Answers.sameEntry {g : Txn → Txn} (h : Answers g) (y : Txn) : y.SameEntry (g y) := by
  rw [(h y).2]
  exact ⟨rfl, rfl, rfl, rfl, rfl, rfl, rfl, rfl, rfl⟩

theorem GoesOn.sameEntry {g : Txn → Txn} (h : GoesOn g) (y : Txn) : y.SameEntry (g y) := by
  rw [h y]
  exact ⟨rfl, rfl, rfl, rfl, rfl, rfl, rfl, rfl, rfl⟩

theorem abortTxn_sameEntry (y : Txn) : y.SameEntry (abortTxn y) := by
  unfold abortTxn
  split <;> exact ⟨rfl, rfl, rfl, rfl, rfl, rfl, rfl, rfl, rfl⟩

/-- The records of a table after a move are those before it, but for one that an arrival enters. -/
theorem Moves.entries {i : Instr} {s u : State} (h : Moves i s u) : EntriesFrom s.table u.table
    ∨ ∃ req c v w note, i = .arrival req ∧ (∀ y ∈ s.table, y.htag ≠ req.tag)
      ∧ (∀ snap, c = .watchedWrite snap → Snapshots req s snap)
      ∧ EntriesFrom (s.table ++ [s.newTxn req c v w note]) u.table := by
  cases h with
  | same => exact .inl (.refl _)
  | enter req c v w note arrival fresh _ origin =>
    exact .inr ⟨req, c, v, w, note, arrival, fresh, origin, .arbitrate _⟩
  | deliver =>
    refine .inl ?_
    unfold State.deliver
    split
    · exact .refl _
    · next h rest _ =>
      have delivered : EntriesFrom s.table (s.table.filter (fun t => t.htag != h)) :=
        fun x hx => ⟨x, List.mem_of_mem_filter hx, .refl x⟩
      exact (delivered.trans
        (.promote { s with deliveries := rest, table := s.table.filter (fun t => t.htag != h) })).trans (.arbitrate _)
  | takeOffer =>
    refine .inl ?_
    unfold State.takeOffer
    split
    · exact .refl _
    · refine EntriesFrom.trans (b := s.table) (.refl _) ?_
      dsimp only
      split <;> exact EntriesFrom.arbitrate _
  | answered _ _ _ _ hg => exact .inl ((EntriesFrom.updateTxn (s.setTag _ _) _ hg.sameEntry).trans (.arbitrate _))
  | verified _ _ _ _ hg => exact .inl ((EntriesFrom.updateTxn (s.setTag _ _) _ hg.sameEntry).trans (.arbitrate _))
  | @unserved m _ _ _ u hu =>
    obtain rfl | rfl := hu
    · exact .inl (.refl _)
    · exact .inl (.arbitrate (s.setTag m .free))
  | @late m _ _ => exact .inl (.promoteAndArbitrate (s.setTag m .free))
  | startReset =>
    rw [s.startMportReset_eq, State.performAll_table]
    exact .inl ((EntriesFrom.map abortTxn abortTxn_sameEntry).trans (.promote s.abortAll))
  | endReset => exact .inl (.arbitrate { s with port := .ready })
  | clear u table _ _ _ =>
    refine .inl ?_
    rw [table]
    intro x hx
    cases hx

/-! ### Arrivals -/

theorem State.tagInUse_eq_false {s : State} {h : HTag} (free : s.tagInUse h = false) : ∀ y ∈ s.table, y.htag ≠ h := by
  simpa [State.tagInUse] using free

theorem State.classifyRead_moves {req : HostRequest} {s : State} (fresh : ∀ y ∈ s.table, y.htag ≠ req.tag)
    (i : RegionIndex) (r : Region) : MovesTo (.arrival req) s (s.classifyRead req i r) := by
  unfold State.classifyRead
  split
  · exact (Moves.enter req (.watchedRead .pass i) false none none rfl fresh nofun nofun).to rfl
  · exact (Moves.enter req (.watchedRead .note i) false none none rfl fresh nofun nofun).to (State.appendEvent_trafficPart _ _)
  · exact .stays (by simp)
  · exact .stays (by simp)

theorem State.classifyWrite_moves {req : HostRequest} {s : State} (fresh : ∀ y ∈ s.table, y.htag ≠ req.tag)
    {i : RegionIndex} {r : Region} (taken : Snapshots req s (s.snapshot i r)) :
    MovesTo (.arrival req) s (s.classifyWrite req i r) := by
  have origin : ∀ snap, Classification.watchedWrite (s.snapshot i r) = .watchedWrite snap → Snapshots req s snap := by
    rintro _ ⟨⟩
    exact taken
  unfold State.classifyWrite
  dsimp only
  split
  · exact (Moves.enter req _ true _ none rfl fresh (fun _ => ⟨_, rfl⟩) origin).to rfl
  · split
    · exact (Moves.enter req _ false _ none rfl fresh nofun origin).to (State.appendEvent_trafficPart _ _)
    · exact (Moves.enter req _ false _ none rfl fresh nofun origin).to rfl
  · split
    · exact .stays (by simp)
    · exact .stays (by simp)
    · exact (Moves.enter req _ false _ _ rfl fresh nofun origin).to (State.appendEvent_trafficPart _ _)

theorem State.classify_moves (req : HostRequest) (s : State) : MovesTo (.arrival req) s (s.classify req) := by
  unfold State.classify
  split
  · exact .stays (by simp)
  · split
    · exact .stays (by simp)
    · next free =>
      have fresh := State.tagInUse_eq_false (Bool.eq_false_iff.mpr free)
      have unwatched : MovesTo (.arrival req) s (s.enterUnwatched req) :=
        (Moves.enter req .unwatched false none none rfl fresh nofun nofun).to rfl
      split
      · exact unwatched
      · next enforce =>
        split
        · exact unwatched
        · next i r governing =>
          unfold State.classifyWatched
          split
          · unfold State.shapeFault
            dsimp only
            split
            · exact .stays (by simp)
            · exact .stays (by simp)
          · split
            · exact State.classifyRead_moves fresh i r
            · next write => exact State.classifyWrite_moves fresh ⟨enforce, write, i, r, governing, rfl⟩

/-! ### The M-port -/

theorem answers_complete (status : HostStatus) (d : Word) :
    Answers (fun t => { t with state := .complete, mtag := none, response := some (status, d) }) := fun _ => ⟨rfl, rfl⟩

theorem answers_verified (v : Word) (status : HostStatus) (d : Word) : Answers (fun t =>
    { t with verifyWord := some v, state := .complete, mtag := none, response := some (status, d) }) := fun _ => ⟨rfl, rfl⟩

theorem goesOn_verified (v : Word) (note : Option Reason) : GoesOn (fun t =>
    { t with verifyWord := some v, state := .issuePending, mtag := none, passNote := note.or t.passNote }) := fun _ => rfl

/-- Two changes of one record are one change, as the first keeps its tag. -/
theorem State.updateTxn_updateTxn (s : State) (h : HTag) (f g : Txn → Txn) (name : ∀ t, (f t).htag = t.htag) :
    (s.updateTxn h f).updateTxn h g = s.updateTxn h (g ∘ f) := by
  unfold State.updateTxn
  dsimp only
  rw [List.map_map]
  congr 1
  refine List.map_congr_left fun t _ => ?_
  by_cases same : t.htag = h <;> simp [same, name]

/-- The answer to a record, before its events are taken. -/
theorem State.complete_eq (h : HTag) (status : HostStatus) (d : Word) (s : State) : s.complete h status d =
    { s.updateTxn h (fun t => { t with state := .complete, mtag := none, response := some (status, d) }) with
      deliveries := s.deliveries ++ [h] } := rfl

section

variable {i : Instr} {s : State} {m : MTag} {a : ActiveTag} {x : Txn}

theorem MovesTo.complete (active : s.tag m = .active a) (taken : a.taken ≠ none) (found : s.txn? a.owner = some x)
    {e : TagEntry} (he : e = .free ∨ e = .orphaned (orphanOf a x)) (status : HostStatus) (d : Word) {t : State}
    (h : t.trafficPart = ((s.setTag m e).complete x.htag status d).arbitrate.trafficPart) : MovesTo i s t :=
  (Moves.answered active taken found he (answers_complete status d)).to h

theorem State.reachVerdict_moves (active : s.tag m = .active a) (taken : a.taken ≠ none)
    (found : s.txn? a.owner = some x) (purpose : a.purpose = .verify) (snap : Snapshot) (v : Word) :
    MovesTo i s ((s.setTag m .free).reachVerdict x snap v) := by
  have goes : ∀ (note : Option Reason) (t : State),
      t.trafficPart = (State.toIssuePending x.htag note ((s.setTag m .free).updateTxn x.htag
        (fun t => { t with verifyWord := some v }))).trafficPart → MovesTo i s t := by
    intro note t h
    refine (Moves.verified active taken found purpose (goesOn_verified v note)).to (h.trans ?_)
    unfold State.toIssuePending
    rw [State.updateTxn_updateTxn (s.setTag m .free) x.htag (fun t => { t with verifyWord := some v }) _ (fun _ => rfl)]
    rfl
  have refused : ∀ (status : HostStatus) (t : State),
      t.trafficPart = (State.arbitrate (State.complete x.htag status 0 ((s.setTag m .free).updateTxn x.htag
        (fun t => { t with verifyWord := some v })))).trafficPart → MovesTo i s t := by
    intro status t h
    refine (Moves.answered active taken found (.inl rfl) (answers_verified v status 0)).to (h.trans ?_)
    rw [State.complete_eq,
      State.updateTxn_updateTxn (s.setTag m .free) x.htag (fun t => { t with verifyWord := some v }) _ (fun _ => rfl)]
    rfl
  unfold State.reachVerdict
  dsimp only
  split
  · split
    · exact goes none _ (by simp)
    · exact goes none _ rfl
  · split
    · exact refused .okay _ (by simp [State.refuseVerified])
    · exact refused .refused _ (by simp [State.refuseVerified])
    · exact goes _ _ (State.appendEvent_trafficPart _ _)

theorem State.verifyFails_moves (active : s.tag m = .active a) (taken : a.taken ≠ none)
    (found : s.txn? a.owner = some x) {e : TagEntry} (he : e = .free ∨ e = .orphaned (orphanOf a x)) (word : WordAddr)
    (reason : Reason) : MovesTo i s ((s.setTag m e).verifyFails x word reason) :=
  .complete active taken found he .fault 0 (by simp [State.verifyFails, State.latchMemory])

theorem State.forwardFails_moves (active : s.tag m = .active a) (taken : a.taken ≠ none)
    (found : s.txn? a.owner = some x) {e : TagEntry} (he : e = .free ∨ e = .orphaned (orphanOf a x)) (kind : EventKind) :
    MovesTo i s ((s.setTag m e).forwardFails x kind) :=
  .complete active taken found he .fault 0 (by simp [State.forwardFails, State.latchMemory])

theorem State.forwardCompletes_moves (active : s.tag m = .active a) (taken : a.taken ≠ none)
    (found : s.txn? a.owner = some x) (d : Word) : MovesTo i s ((s.setTag m .free).forwardCompletes x d) := by
  refine .complete active taken found (.inl rfl) .okay (forwardData x.kind d) ?_
  unfold State.forwardCompletes
  dsimp only
  split
  · simp
  · rfl

end

theorem State.activeResponse_moves {i : Instr} {s : State} {m : MTag} {a : ActiveTag} (active : s.tag m = .active a)
    (taken : a.taken ≠ none) (status : MemStatus) (d : Word) : MovesTo i s (s.activeResponse m a status d) := by
  unfold State.activeResponse
  dsimp only
  split
  · next none_ => exact (Moves.unserved active (by simp [none_]) _ (.inr rfl)).to rfl
  next x found =>
  have unserved : a.purpose = .verify → (∀ snap, x.classification ≠ .watchedWrite snap) →
      MovesTo i s (s.setTag m .free).arbitrate := by
    intro purpose unwatched
    refine (Moves.unserved active (fun y hy => ?_) _ (.inr rfl)).to rfl
    obtain rfl := Option.some.inj (found.symm.trans hy)
    exact ⟨purpose, unwatched⟩
  split
  · next _ _ purpose =>
    split
    · next snap _ => exact State.reachVerdict_moves active taken found purpose snap d
    · next c => exact unserved purpose (by simp [c])
    · next c => exact unserved purpose (by simp [c])
  · exact State.verifyFails_moves active taken found (.inl rfl) _ _
  · exact State.forwardCompletes_moves active taken found d
  · exact State.forwardCompletes_moves active taken found d
  · exact State.forwardFails_moves active taken found (.inl rfl) _
  · exact State.forwardFails_moves active taken found (.inl rfl) _

theorem State.respond_moves (i : Instr) (resp : MemResponse) (s : State) : MovesTo i s (s.respond resp) := by
  unfold State.respond
  split
  · exact .stays (by simp [State.strayResponse, State.latchMemory])
  · next o orphan => exact (Moves.late orphan).to (by simp [State.lateResponse, State.latchMemory])
  · next a active =>
    split
    · exact .stays (by simp [State.strayResponse, State.latchMemory])
    · next taken => exact State.activeResponse_moves active (by simp [taken]) _ _

theorem ActiveTag.taken_of_expired {a : ActiveTag} {now : Time} (h : a.expired now = true) : a.taken ≠ none := by
  intro none_
  simp [ActiveTag.expired, none_] at h

theorem State.expireVerify_moves (i : Instr) (m : MTag) (s : State) : MovesTo i s (s.expireVerify m) := by
  unfold State.expireVerify
  split
  · next a active =>
    split
    · next due =>
      have taken := ActiveTag.taken_of_expired (Bool.and_eq_true_iff.mp due).2
      split
      · next found => exact State.verifyFails_moves active taken found (.inr rfl) _ _
      · next none_ => exact (Moves.unserved active (by simp [none_]) _ (.inl rfl)).to rfl
    · exact .stays rfl
  · exact .stays rfl
  · exact .stays rfl

theorem State.expireForward_moves (i : Instr) (m : MTag) (s : State) : MovesTo i s (s.expireForward m) := by
  unfold State.expireForward
  split
  · next a active =>
    split
    · next due =>
      have taken := ActiveTag.taken_of_expired (Bool.and_eq_true_iff.mp due).2
      split
      · next found => exact State.forwardFails_moves active taken found (.inr rfl) _
      · next none_ => exact (Moves.unserved active (by simp [none_]) _ (.inl rfl)).to rfl
    · exact .stays rfl
  · exact .stays rfl
  · exact .stays rfl

theorem State.endMportReset_moves (i : Instr) (s : State) : MovesTo i s s.endMportReset := by
  unfold State.endMportReset
  split
  · exact .stays rfl
  · split
    · exact Moves.endReset.to (by simp [State.latchMemory])
    · exact .stays rfl

/-! ### The link -/

/-- Of the management commands RESET_MPORT alone reaches the table and the tags. -/
theorem State.carryOut_moves (c : Command) (args : List Byte) (s : State) :
    (s.carryOut c args).state = s.startMportReset ∨ (s.carryOut c args).state.trafficPart = s.trafficPart := by
  unfold State.carryOut
  split
  · exact .inr rfl
  cases c with
  | readStatus => exact .inr rfl
  | fetchTiming => exact .inr rfl
  | setMode =>
    refine .inr ?_
    dsimp only [carrySetMode]
    split
    · rfl
    · split <;> rfl
  | lockConfig => refine .inr ?_; dsimp only [carryLockConfig]; split <;> rfl
  | setTiming => refine .inr ?_; dsimp only [carrySetTiming]; split <;> rfl
  | loadRegion =>
    refine .inr ?_
    dsimp only [carryLoadRegion]
    split
    · rfl
    · split <;> rfl
  | fetchRegion => refine .inr ?_; dsimp only [carryFetchRegion]; split <;> rfl
  | dropRegion => refine .inr ?_; dsimp only [carryDropRegion]; split <;> rfl
  | loadSequence =>
    refine .inr ?_
    dsimp only [carryLoadSequence]
    split
    · rfl
    · split <;> rfl
  | fetchSequence => refine .inr ?_; dsimp only [carryFetchSequence]; split <;> rfl
  | dropSequence => refine .inr ?_; dsimp only [carryDropSequence]; split <;> rfl
  | openWindow =>
    refine .inr ?_
    dsimp only [carryOpenWindow]
    split
    · rfl
    · split
      · rfl
      · simp [State.trafficPart]
  | closeWindow =>
    refine .inr ?_
    dsimp only [carryCloseWindow]
    split
    · rfl
    · simp [State.trafficPart]
  | freezeGroup =>
    refine .inr ?_
    dsimp only [carryFreezeGroup]
    split
    · rfl
    · simp [State.trafficPart]
  | takeEvent => refine .inr ?_; dsimp only [carryTakeEvent]; split <;> rfl
  | ackAttn =>
    refine .inr ?_
    dsimp only [carryAckAttn]
    split
    · rfl
    · next c _ =>
      simp only [Carried.ok_state, State.acknowledge]
      rw [State.latchLogAtThreshold_touches]
      split <;> split <;> (try split) <;> rfl
  | setAttnMask => refine .inr ?_; dsimp only [carrySetAttnMask]; split <;> rfl
  | resetMport =>
    dsimp only [carryResetMport]
    split
    · exact .inl rfl
    · exact .inr rfl

theorem State.effectEvent_moves (i : Instr) (c : Command) (args : List Byte) (s : State) :
    MovesTo i s (s.effectEvent c args) := by
  obtain h | h := s.carryOut_moves c args
  · refine Moves.startReset.to ?_
    rw [← h]
    rfl
  · exact .stays h

/-- The frame has no part in what a command makes of the table and the tags. -/
theorem State.runFrame_moves (i : Instr) (c : Command) (args : List Byte) (s : State) : MovesTo i s (s.runFrame c args) := by
  unfold State.runFrame
  split
  · obtain h | h := s.newFrame.carryOut_moves c args
    · have reset : s.newFrame.startMportReset.trafficPart = s.startMportReset.trafficPart := by
        rw [s.newFrame_eq]
        simp only [State.startMportReset_eq, State.performAll_trafficPart]
        rfl
      refine Moves.startReset.to (Eq.trans ?_ reset)
      rw [← h]
      rfl
    · exact .stays h
  · exact .stays rfl

theorem State.takeByte_moves (i : Instr) (b : Byte) (s : State) : MovesTo i s (s.takeByte b) := by
  unfold State.takeByte
  split
  · exact .stays rfl
  · exact .stays rfl
  · exact .stays rfl
  · split
    · exact .stays rfl
    · split
      · exact s.effectEvent_moves i _ _
      · exact .stays rfl
  · split
    · exact .stays rfl
    · exact s.effectEvent_moves i _ _
  · split
    · exact .stays rfl
    · exact .stays rfl
    · split
      · exact .stays rfl
      · unfold State.finishReply
        dsimp only
        split
        · exact .stays s.removeHead_trafficPart
        · exact .stays rfl
    · exact .stays rfl

/-! ### Every command -/

theorem exec_moves {c : Instr} {s t : State} (h : exec c s = .next t) : MovesTo c s t := by
  cases c with
  | powerOnReset => cases h; exact (Moves.clear _ rfl rfl rfl rfl).to rfl
  | arrival req =>
    cases h
    split
    · exact s.classify_moves req
    · exact .stays rfl
  | answerTaken => cases h; exact .stays rfl
  | delivery => cases h; exact Moves.deliver.to rfl
  | mportRequestTaken => cases h; exact Moves.takeOffer.to rfl
  | mportResponseTaken resp =>
    cases h
    split
    · exact s.respond_moves _ resp
    · exact .stays rfl
  | verifyLimitExpiry m => cases h; exact s.expireVerify_moves _ m
  | forwardLimitExpiry m => cases h; exact s.expireForward_moves _ m
  | mportResetEnd => cases h; exact s.endMportReset_moves _
  | readStatus => cases h; exact s.runFrame_moves _ _ _
  | setMode mode => cases h; exact s.runFrame_moves _ _ _
  | lockConfig => cases h; exact s.runFrame_moves _ _ _
  | setTiming image => cases h; exact s.runFrame_moves _ _ _
  | fetchTiming => cases h; exact s.runFrame_moves _ _ _
  | loadRegion index image => cases h; exact s.runFrame_moves _ _ _
  | fetchRegion index => cases h; exact s.runFrame_moves _ _ _
  | dropRegion index => cases h; exact s.runFrame_moves _ _ _
  | loadSequence index image => cases h; exact s.runFrame_moves _ _ _
  | fetchSequence index => cases h; exact s.runFrame_moves _ _ _
  | dropSequence index => cases h; exact s.runFrame_moves _ _ _
  | openWindow group d => cases h; exact s.runFrame_moves _ _ _
  | closeWindow group => cases h; exact s.runFrame_moves _ _ _
  | freezeGroup group => cases h; exact s.runFrame_moves _ _ _
  | takeEvent => cases h; exact s.runFrame_moves _ _ _
  | ackAttn causes => cases h; exact s.runFrame_moves _ _ _
  | setAttnMask causes => cases h; exact s.runFrame_moves _ _ _
  | resetMport => cases h; exact s.runFrame_moves _ _ _
  | takeEventRemoval =>
    cases h
    split
    · split
      · unfold State.finishReply
        dsimp only
        rw [if_pos ⟨rfl, rfl⟩]
        exact .stays s.removeHead_trafficPart
      · exact .stays rfl
    · exact .stays rfl
  | badCommand code =>
    cases h
    split
    · next up =>
      have command : s.newFrame.frame = .command := by
        rw [s.newFrame_eq]
        exact if_pos up
      unfold State.takeByte
      rw [command]
      dsimp only
      split
      · exact .stays rfl
      · next c _ =>
        split
        · have run := s.runFrame_moves (.badCommand code) c []
          unfold State.runFrame at run
          rwa [if_pos up] at run
        · exact .stays rfl
    · exact .stays rfl
  | frameDeselect => cases h; exact .stays rfl
  | windowExpiry g => cases h; exact .stays (by simp [State.trafficPart])
  | deadlineExpiry i => cases h; exact .stays (by simp [State.trafficPart])
  | pulseEnd => cases h; split <;> exact .stays rfl
  | repulseGapEnd => cases h; split <;> exact .stays rfl
  | coalescingClose => cases h; split <;> exact .stays rfl
  | lineResetAssert =>
    cases h
    split
    · exact .stays rfl
    · split
      · exact .stays rfl
      · exact (Moves.clear _ rfl rfl rfl rfl).to rfl
  | lineResetRelease =>
    cases h
    split
    · exact .stays rfl
    · split
      · exact .stays rfl
      · exact .stays (by rw [State.appendEvent_trafficPart]; rfl)
  | selectPeriodBegin =>
    cases h
    unfold State.select
    split <;> exact .stays rfl
  | slinkByteTaken b =>
    cases h
    split
    · exact s.takeByte_moves _ b
    · exact .stays rfl
  | powerOnResetEnd =>
    cases h
    split
    · dsimp only
      split
      · exact (Moves.clear _ rfl rfl rfl rfl).to rfl
      · exact .stays rfl
    · exact .stays rfl

/-- Settles O58: each move of the table and the tags keeps the laws, and the arbiter looks after each. -/
theorem tableStaysSound : Obligations.TableStaysSound := by
  intro s t sound settled h
  have law : TableLaw s := ⟨sound, settled⟩
  obtain ⟨-, rfl⟩ | ⟨c, rest, -, h⟩ := step_cases h
  · obtain ⟨u, h⟩ := s.tick_touches
    rw [h]
    exact law.congr rfl
  · have taken : TableLaw { s with pending := rest } := law.congr rfl
    obtain ⟨u, moves, same⟩ := exec_moves h
    exact (moves.tableLaw taken).congr same

/-- Settles O14: a move changes no field of entry, and the one move with a new record is that of an arrival. -/
theorem recordsKeepTheirClassification : Obligations.RecordsKeepTheirClassification := by
  intro c s t h x hx
  obtain ⟨u, moves, same⟩ := exec_moves h
  obtain table : t.table = u.table := congrArg Prod.fst same
  rw [table] at hx
  have kept : ∀ y : Txn, y.SameEntry x → y.htag = x.htag ∧ y.kind = x.kind ∧ y.word = x.word ∧ y.lanes = x.lanes
      ∧ y.data = x.data ∧ y.classification = x.classification ∧ y.needsVerify = x.needsVerify ∧ y.touched = x.touched
      ∧ y.companion = x.companion :=
    fun y e => ⟨e.htag, e.kind, e.word, e.lanes, e.data, e.classification, e.needsVerify, e.touched, e.companion⟩
  obtain entries | ⟨req, class_, v, w, note, arrival, fresh, -, entries⟩ := moves.entries
  · obtain ⟨y, hy, e⟩ := entries x hx
    exact .inl ⟨y, hy, kept y e⟩
  · obtain ⟨y, hy, e⟩ := entries x hx
    obtain hy | hy := List.mem_append.mp hy
    · exact .inl ⟨y, hy, kept y e⟩
    · obtain rfl := List.mem_singleton.mp hy
      exact .inr ⟨req, arrival, e.htag.symm, e.kind.symm, e.word.symm, e.lanes.symm, fresh⟩

end Sys2Proof.Machine
end

section
/-! SUPPORT and PROOFS. The timers and the resets: when a timer is due and what its row does (O2, O36), what each reset
leaves (O4, O5), and that the unit stays quiet while one is in progress (O59, O60). -/

namespace Sys2Proof.Machine

/-! ### When a timer is due -/

theorem State.windowDue_iff (s : State) (g : GroupIndex) : s.windowDue g = true ↔ s.group g = .opened s.timeBase := by
  unfold State.windowDue
  cases s.group g <;> simp

theorem State.deadlineDue_iff (s : State) (i : MatcherIndex) :
    s.deadlineDue i = true ↔ ∃ m, s.matcher i = some m ∧ m.deadline = some s.timeBase := by
  simp [State.deadlineDue, Option.any_eq_true]

theorem State.pulseDue_iff (s : State) : s.pulseDue = true ↔ s.pulse = some s.timeBase := beq_iff_eq

theorem State.closingDue_iff (s : State) : s.closingDue = true ↔ s.openUntil = some s.timeBase := beq_iff_eq

theorem State.mportResetDue_iff (s : State) : s.mportResetDue = true ↔ ∃ n, s.port = .resetting s.timeBase n := by
  unfold State.mportResetDue
  cases s.port <;> simp

theorem ActiveTag.expired_iff (a : ActiveTag) (now : Time) :
    a.expired now = true ↔ ∃ start limit, a.taken = some (start, limit) ∧ limit.toNat ≤ (now - start).toNat := by
  unfold ActiveTag.expired
  cases a.taken with
  | none => simp
  | some p =>
    simp only [decide_eq_true_eq, Option.some.injEq]
    exact ⟨fun h => ⟨p.1, p.2, rfl, h⟩, fun ⟨_, _, same, h⟩ => by rwa [same]⟩

theorem State.tagExpiry_eq_some_iff (s : State) (m : MTag) (c : Instr) :
    s.tagExpiry m = some c ↔ ∃ a, s.tag m = .active a ∧ a.expired s.timeBase = true
      ∧ c = if a.purpose = .verify then .verifyLimitExpiry m else .forwardLimitExpiry m := by
  unfold State.tagExpiry
  cases s.tag m with
  | free => simp
  | orphaned o => simp
  | active a =>
    simp only [TagEntry.active.injEq, exists_eq_left', beq_iff_eq]
    cases a.expired s.timeBase with
    | false => simp
    | true => simp only [if_true, Option.some.injEq, true_and, eq_comm]

/-- The commands of the timers that are due (7.5). -/
theorem State.mem_dueEvents (s : State) (power : s.powerOn = false) (c : Instr) : c ∈ s.dueEvents ↔
    (∃ m, s.tagExpiry m = some c) ∨ (s.mportResetDue = true ∧ c = .mportResetEnd)
      ∨ (∃ g, s.windowDue g = true ∧ .windowExpiry g = c) ∨ (∃ i, s.deadlineDue i = true ∧ .deadlineExpiry i = c)
      ∨ (s.pulseDue = true ∧ c = .pulseEnd) ∨ (s.gapDue = true ∧ c = .repulseGapEnd)
      ∨ (s.closingDue = true ∧ c = .coalescingClose) := by
  unfold State.dueEvents
  rw [power, if_neg Bool.false_ne_true]
  simp only [List.mem_append, List.mem_filterMap, List.mem_map, List.mem_filter, List.mem_finRange, true_and,
    List.mem_ite_nil_right, List.mem_singleton, or_assoc]

/-- A command that is no limit's is due by another timer than a tag's. -/
theorem State.mem_dueEvents_other (s : State) (power : s.powerOn = false) {c : Instr}
    (other : ∀ m, c ≠ .verifyLimitExpiry m ∧ c ≠ .forwardLimitExpiry m) : c ∈ s.dueEvents ↔
      (s.mportResetDue = true ∧ c = .mportResetEnd)
        ∨ (∃ g, s.windowDue g = true ∧ .windowExpiry g = c) ∨ (∃ i, s.deadlineDue i = true ∧ .deadlineExpiry i = c)
        ∨ (s.pulseDue = true ∧ c = .pulseEnd) ∨ (s.gapDue = true ∧ c = .repulseGapEnd)
        ∨ (s.closingDue = true ∧ c = .coalescingClose) := by
  rw [s.mem_dueEvents power, or_iff_right]
  rintro ⟨m, h⟩
  obtain ⟨a, -, -, h⟩ := (s.tagExpiry_eq_some_iff m c).mp h
  split at h
  · exact (other m).1 h
  · exact (other m).2 h

/-- A limit's expiry command is due where its tag's timer has run out. -/
theorem State.mem_dueEvents_limit (s : State) (power : s.powerOn = false) (m : MTag) (c : Instr)
    (hc : c = .verifyLimitExpiry m ∨ c = .forwardLimitExpiry m) : c ∈ s.dueEvents ↔
      ∃ a start limit, s.tag m = .active a ∧ (a.purpose = .verify ↔ c = .verifyLimitExpiry m)
        ∧ a.taken = some (start, limit) ∧ limit.toNat ≤ (s.timeBase - start).toNat := by
  have only : c ∈ s.dueEvents ↔ s.tagExpiry m = some c := by
    rw [s.mem_dueEvents power]
    constructor
    · rintro (⟨n, h⟩ | h)
      · obtain ⟨a, active, expired, h'⟩ := (s.tagExpiry_eq_some_iff n c).mp h
        obtain rfl : n = m := by obtain rfl | rfl := hc <;> split at h' <;> cases h' <;> rfl
        exact h
      · obtain rfl | rfl := hc <;> simp at h
    · exact fun h => .inl ⟨m, h⟩
  rw [only, s.tagExpiry_eq_some_iff]
  simp only [ActiveTag.expired_iff]
  constructor
  · rintro ⟨a, active, ⟨start, limit, taken, due⟩, h⟩
    refine ⟨a, start, limit, active, ?_, taken, due⟩
    by_cases purpose : a.purpose = .verify <;> simp [h, purpose]
  · rintro ⟨a, start, limit, active, purpose, taken, due⟩
    refine ⟨a, active, ⟨start, limit, taken, due⟩, ?_⟩
    obtain rfl | rfl := hc <;> simp [purpose]

/-- What a tick does while no power-on reset is in progress (log entry 2). -/
theorem State.tick_cases (s : State) (power : s.powerOn = false) :
    (s.dueEvents = [] ∧ s.tick = { s with timeBase := s.timeBase + 1 })
      ∨ (s.dueEvents ≠ [] ∧ ∃ order n, order.Perm s.dueEvents ∧ s.tick = { s with pending := order, choices := n }) := by
  unfold State.tick
  split
  · next none_ => exact .inl ⟨none_, by simp [State.advanceTime, power]⟩
  · next e es due =>
    refine .inr ⟨by simp [due], _, _, ?_, rfl⟩
    have perm := interleave_perm ((e :: es).map (fun x => [x])) s.choices
    rw [← List.flatMap_def, List.flatMap_singleton'] at perm
    rwa [due]

/-- Settles O2: the due events are gathered timer by timer, and an interleaving of them permutes them. -/
theorem emptyQueuePassesOverNoTimer : Obligations.EmptyQueuePassesOverNoTimer := by
  intro s empty power
  have ticks : step s = .next s.tick := by
    unfold step
    rw [empty]
  have due := fun {c : Instr} => s.mem_dueEvents_other power (c := c)
  refine ⟨fun none_ => ?_, fun some_ => ?_, fun g => ?_, fun i => ?_, fun m => ?_, fun m => ?_, ?_, ?_, ?_, ?_⟩
  · obtain ⟨-, h⟩ | ⟨some_, -⟩ := s.tick_cases power
    · rw [ticks, h]
    · exact absurd none_ some_
  · obtain ⟨none_, -⟩ | ⟨-, order, n, perm, h⟩ := s.tick_cases power
    · exact absurd none_ some_
    · exact ⟨order, n, perm, by rw [ticks, h]⟩
  · rw [due (by simp), ← s.windowDue_iff]
    simp
  · rw [due (by simp), ← s.deadlineDue_iff]
    simp
  · rw [s.mem_dueEvents_limit power m _ (.inl rfl)]
    simp
  · rw [s.mem_dueEvents_limit power m _ (.inr rfl)]
    simp
  · rw [due (by simp), ← s.mportResetDue_iff]
    simp
  · rw [due (by simp), ← s.pulseDue_iff]
    simp
  · rw [due (by simp), ← s.gapDue_iff]
    simp
  · rw [due (by simp), ← s.closingDue_iff]
    simp

/-! ### What the row of a timer does -/

theorem State.expireWindow_of_due {s : State} {g : GroupIndex} (due : s.group g = .opened s.timeBase) :
    s.expireWindow g = State.appendEvent { kind := .windowClosed, reason := some .expired, group := some g }
      (s.setGroup g .closed) :=
  if_pos ((s.windowDue_iff g).mpr due)

theorem State.expireWindow_of_not_due {s : State} {g : GroupIndex} (h : s.group g ≠ .opened s.timeBase) :
    s.expireWindow g = s :=
  if_neg fun due => h ((s.windowDue_iff g).mp due)

theorem State.expireDeadline_of_due {s : State} {i : MatcherIndex} {m : Matcher} (defined : s.matcher i = some m)
    (due : m.deadline = some s.timeBase) :
    s.expireDeadline i = State.appendEvent (lapsedEvent i .timeout none m.progress) (s.setMatcher i (some m.restart)) := by
  simp [State.expireDeadline, defined, due]

theorem State.expireDeadline_of_not_due {s : State} {i : MatcherIndex}
    (h : ∀ m, s.matcher i = some m → m.deadline ≠ some s.timeBase) : s.expireDeadline i = s := by
  unfold State.expireDeadline
  split
  · rfl
  · next m defined => exact if_neg fun due => h m defined (beq_iff_eq.mp due)

theorem State.endMportReset_of_not_due {s : State} (h : ∀ n, s.port ≠ .resetting s.timeBase n) : s.endMportReset = s := by
  unfold State.endMportReset
  split
  · rfl
  · next e n port => exact if_neg fun due => h n (by rw [port, beq_iff_eq.mp due])

theorem State.expireVerify_of_not_expired {s : State} {m : MTag}
    (h : ∀ a, s.tag m = .active a → a.expired s.timeBase = false) : s.expireVerify m = s := by
  unfold State.expireVerify
  split
  · next a active => exact if_neg (by simp [h a active])
  · rfl
  · rfl

theorem State.expireForward_of_not_expired {s : State} {m : MTag}
    (h : ∀ a, s.tag m = .active a → a.expired s.timeBase = false) : s.expireForward m = s := by
  unfold State.expireForward
  split
  · next a active => exact if_neg (by simp [h a active])
  · rfl
  · rfl

/-- Settles O36: each row is its block's expiry where the timer is due, and nothing where it is not. -/
theorem timersExpire : Obligations.TimersExpire := by
  intro s
  refine ⟨fun g due => congrArg Host.Outcome.next (State.expireWindow_of_due due),
    fun i m defined due => congrArg Host.Outcome.next (State.expireDeadline_of_due defined due), fun due => ⟨?_, ?_, rfl⟩,
    fun due => congrArg Host.Outcome.next (if_pos ((s.closingDue_iff).mpr due)),
    fun g h => congrArg Host.Outcome.next (State.expireWindow_of_not_due h),
    fun i h => congrArg Host.Outcome.next (State.expireDeadline_of_not_due h),
    fun h => congrArg Host.Outcome.next (if_neg fun due => h ((s.pulseDue_iff).mp due)),
    fun h => congrArg Host.Outcome.next (if_neg fun due => h ((s.gapDue_iff).mp due)),
    fun h => congrArg Host.Outcome.next (if_neg fun due => h ((s.closingDue_iff).mp due)),
    fun h => congrArg Host.Outcome.next (State.endMportReset_of_not_due h), fun m h => ?_⟩
  · exact congrArg Host.Outcome.next (if_pos ((s.pulseDue_iff).mpr due))
  · simp [State.rstoAsserted, due]
  · have waits : ∀ a, s.tag m = .active a → a.expired s.timeBase = false := by
      intro a active
      refine Bool.eq_false_iff.mpr fun due => ?_
      obtain ⟨start, limit, taken, reached⟩ := (a.expired_iff _).mp due
      exact absurd (h a start limit active taken) (Nat.not_lt.mpr reached)
    exact ⟨congrArg Host.Outcome.next (State.expireVerify_of_not_expired waits),
      congrArg Host.Outcome.next (State.expireForward_of_not_expired waits)⟩

/-! ### What a reset leaves -/

/-- Settles O4: the row gives the reset state with the lines and the model's own fields. -/
theorem powerOnResetClearsTheUnit : Obligations.PowerOnResetClearsTheUnit := by
  intro s
  have tags : ∀ m, State.reset.tag m = .free := by decide
  have regions : ∀ i, State.reset.region i = none := by decide
  have groups : ∀ g, State.reset.group g = .closed := by decide
  have matchers : ∀ i, State.reset.matcher i = none := by decide
  refine ⟨_, rfl, rfl, rfl, rfl, rfl, rfl, rfl, tags, rfl, rfl, regions, groups, matchers, rfl, rfl, rfl, rfl, rfl, rfl, rfl,
    rfl, rfl, rfl, rfl, rfl, rfl, rfl, rfl, rfl, rfl, fun power line => ?_⟩
  simp [exec, execPowerOnResetEnd, power, line]

theorem State.lineReset_tag (s : State) (m : MTag) : s.lineReset.tag m = .free := State.mtags_free_tag rfl m

theorem State.lineReset_group (s : State) (g : GroupIndex) : s.lineReset.group g = match s.group g with
    | .opened _ => .closed
    | .closed => .closed
    | .frozen => .frozen := closeOpenGroups_get s.groups g

theorem State.lineReset_matcher (s : State) (i : MatcherIndex) :
    s.lineReset.matcher i = (s.matcher i).map Matcher.restart := by
  simp [State.lineReset, State.matcher, restartMatchers]

theorem State.with_rstAsserted_eq_self {s : State} {b : Bool} (h : s.rstAsserted = b) : { s with rstAsserted := b } = s := by
  subst h
  rfl

/-- Settles O5: both rows are the line reset, and the other rows move the line's level alone. -/
theorem lineResetClearsTheTraffic : Obligations.LineResetClearsTheTraffic := by
  refine ⟨fun s => ⟨fun line power => ?_, fun line => ?_, fun power => ⟨?_, ?_⟩, fun line => ?_, fun power => ?_⟩,
    fun c s h => ?_⟩
  · simp [exec, execLineResetRelease, line, power]
  · simp [exec, execLineResetAssert, line]
  · cases line : s.rstAsserted with
    | true => simp [exec, execLineResetAssert, line, State.with_rstAsserted_eq_self line]
    | false => simp [exec, execLineResetAssert, line, power]
  · cases line : s.rstAsserted with
    | true => simp [exec, execLineResetRelease, line, power]
    | false => simp [exec, execLineResetRelease, line, State.with_rstAsserted_eq_self line]
  · simp [exec, execLineResetRelease, line]
  · simp [exec, execPowerOnResetEnd, power]
  · obtain ⟨rfl, line, power⟩ | ⟨rfl, power, line⟩ := h
    · refine ⟨s.lineReset, by simp [exec, execLineResetAssert, line, power], ?_, s.lineReset_tag, s.lineReset_group,
        s.lineReset_matcher⟩
      simp [State.lineReset, power]
    · exact ⟨State.lineReset { s with powerOn := false }, by simp [exec, execPowerOnResetEnd, line, power], rfl,
        State.lineReset_tag _, State.lineReset_group _, State.lineReset_matcher _⟩

/-! ### Quiet (R80, R100, R101) -/

theorem Quiet.lineReset (s : State) : Quiet s.lineReset where
  answers := rfl
  table := rfl
  deliveries := rfl
  tags := s.lineReset_tag
  offer := rfl
  port := rfl
  groups g e := by
    rw [s.lineReset_group]
    cases s.group g <;> simp
  matchers i m h := by
    rw [s.lineReset_matcher] at h
    obtain ⟨m', -, rfl⟩ := Option.map_eq_some_iff.mp h
    exact ⟨rfl, rfl⟩
  marks := ⟨rfl, rfl⟩
  gap := rfl
  frame := by
    dsimp only [State.lineReset]
    split
    · exact .inl rfl
    · exact .inr rfl

theorem Quiet.reset : Quiet State.reset where
  answers := rfl
  table := rfl
  deliveries := rfl
  tags := by decide
  offer := rfl
  port := rfl
  groups g e := by
    have closed : ∀ g, State.reset.group g = .closed := by decide
    simp [closed g]
  matchers i m h := by
    have none_ : ∀ i, State.reset.matcher i = none := by decide
    simp [none_ i] at h
  marks := ⟨rfl, rfl⟩
  gap := rfl
  frame := .inl rfl

/-- Quiet speaks neither of the lines, the time and the queue nor of the pulse. -/
theorem Quiet.congr {s : State} (quiet : Quiet s) (rst power : Bool) (now : Time) (pulse : Option Time) (n : Nat)
    (queue : List Instr) : Quiet { s with
      rstAsserted := rst, powerOn := power, timeBase := now, pulse := pulse, choices := n, pending := queue } := by
  obtain ⟨answers, table, deliveries, tags, offer, port, groups, matchers, marks, gap, frame⟩ := quiet
  exact ⟨answers, table, deliveries, tags, offer, port, groups, matchers, marks, gap, frame⟩

/-- Quiet asks of the frame only that no byte is awaited in it. -/
theorem Quiet.withFrame {s : State} (quiet : Quiet s) {f : Frame} (frame : f = .idle ∨ f = .ignored) :
    Quiet { s with frame := f, taking := false } := by
  obtain ⟨answers, table, deliveries, tags, offer, port, groups, matchers, marks, gap, -⟩ := quiet
  exact ⟨answers, table, deliveries, tags, offer, port, groups, matchers, ⟨marks.1, rfl⟩, gap, frame⟩

/-- The lines of the resets move by a reset's row alone. -/
theorem Effect.keepsLines {p : Prop} {u v : State} (h : Effect p False u v) (up : LinkUp u) : LinkUp v := by
  cases h with
  | block h =>
    cases h with
    | traffic t h => rw [h]; exact up
    | append e => exact ⟨(u.appendEvent_rstAsserted e).trans up.1, (u.appendEvent_powerOn e).trans up.2⟩
    | _ => exact up
  | remove _ => rw [u.removeHead_touches]; exact up
  | lines _ _ h => exact h.elim
  | _ => exact up

theorem quiet_of_powerOnReset {s t : State} (h : exec .powerOnReset s = .next t) : Quiet t := by
  cases h
  refine Quiet.withFrame (s := { State.reset with
    powerOn := true, rstAsserted := s.rstAsserted, choices := s.choices, pending := s.pending })
    (Quiet.reset.congr _ _ _ _ _ _) ?_
  split
  · exact .inl rfl
  · exact .inr rfl

/-- From a unit out of reset, a reset begins with LINE_RESET_ASSERT or POWER_ON_RESET, and leaves it quiet. -/
theorem quiet_of_linkUp {c : Instr} {s t : State} (up : LinkUp s) (h : exec c s = .next t) (down : ¬ LinkUp t) : Quiet t := by
  by_cases power : c = .powerOnReset
  · subst power
    exact quiet_of_powerOnReset h
  by_cases row : ResetRow c
  · obtain rfl | rfl | rfl := row
    · simp only [exec, execLineResetAssert, up.1, up.2, Bool.false_eq_true, if_false] at h
      cases h
      exact Quiet.lineReset s
    · simp only [exec, execLineResetRelease, up.1, Bool.not_false, if_true] at h
      cases h
      exact absurd up down
    · simp only [exec, execPowerOnResetEnd, up.2, Bool.false_eq_true, if_false] at h
      cases h
      exact absurd up down
  · have effects := exec_effects h power
    rw [eq_false row] at effects
    exact absurd (effects.keep (fun _ _ => Effect.keepsLines) up) down

/-! ### The commands of a quiet unit -/

theorem State.with_answers_eq_self {s : State} {l : List HostResponse} (h : s.answers = l) : { s with answers := l } = s := by
  subst h
  rfl

theorem State.runFrame_of_not_linkUp {s : State} (down : ¬ LinkUp s) (c : Command) (args : List Byte) :
    s.runFrame c args = s :=
  if_neg fun takes => down ((s.slinkTakes_iff_linkUp).mp takes)

theorem State.hportAccepts_iff (s : State) : s.hportAccepts = true ↔ LinkUp s ∧ s.answers.length < 16 := by
  simp only [State.hportAccepts, Bool.and_eq_true, Bool.not_eq_true', decide_eq_true_eq]
  rfl

theorem State.handlesResponses_iff (s : State) : s.handlesResponses = true ↔ s.port = .ready ∧ LinkUp s := by
  simp [State.handlesResponses, LinkUp, and_assoc]

/-- During a reset no command gives the unit anything to do. -/
theorem Quiet.exec {c : Instr} {s t : State} (quiet : Quiet s) (down : ¬ LinkUp s) (h : exec c s = .next t)
    (still : ¬ LinkUp t) : Quiet t := by
  have noByte : s.slinkTakes ≠ true := fun takes => down ((s.slinkTakes_iff_linkUp).mp takes)
  have same : ∀ {u : State}, (Host.Outcome.next u : Host.Outcome State Fault Refusal) = .next t → u = s → Quiet t := by
    rintro u ⟨⟩ rfl
    exact quiet
  have waits : ∀ m a, s.tag m = .active a → a.expired s.timeBase = false :=
    fun m a active => nomatch (quiet.tags m).symm.trans active
  cases c with
  | arrival req => exact same h (if_neg fun accepts => down ((s.hportAccepts_iff).mp accepts).1)
  | answerTaken => exact same h (State.with_answers_eq_self (by rw [quiet.answers]; rfl))
  | delivery => exact same h (by simp [State.deliver, quiet.deliveries])
  | mportRequestTaken => exact same h (by simp [State.takeOffer, quiet.offer])
  | mportResponseTaken resp => exact same h (if_neg fun handles => down ((s.handlesResponses_iff).mp handles).2)
  | verifyLimitExpiry m => exact same h (State.expireVerify_of_not_expired (waits m))
  | forwardLimitExpiry m => exact same h (State.expireForward_of_not_expired (waits m))
  | mportResetEnd => exact same h (State.endMportReset_of_not_due (by simp [quiet.port]))
  | readStatus => exact same h (State.runFrame_of_not_linkUp down _ _)
  | setMode mode => exact same h (State.runFrame_of_not_linkUp down _ _)
  | lockConfig => exact same h (State.runFrame_of_not_linkUp down _ _)
  | setTiming image => exact same h (State.runFrame_of_not_linkUp down _ _)
  | fetchTiming => exact same h (State.runFrame_of_not_linkUp down _ _)
  | loadRegion index image => exact same h (State.runFrame_of_not_linkUp down _ _)
  | fetchRegion index => exact same h (State.runFrame_of_not_linkUp down _ _)
  | dropRegion index => exact same h (State.runFrame_of_not_linkUp down _ _)
  | loadSequence index image => exact same h (State.runFrame_of_not_linkUp down _ _)
  | fetchSequence index => exact same h (State.runFrame_of_not_linkUp down _ _)
  | dropSequence index => exact same h (State.runFrame_of_not_linkUp down _ _)
  | openWindow group d => exact same h (State.runFrame_of_not_linkUp down _ _)
  | closeWindow group => exact same h (State.runFrame_of_not_linkUp down _ _)
  | freezeGroup group => exact same h (State.runFrame_of_not_linkUp down _ _)
  | takeEvent => exact same h (State.runFrame_of_not_linkUp down _ _)
  | ackAttn causes => exact same h (State.runFrame_of_not_linkUp down _ _)
  | setAttnMask causes => exact same h (State.runFrame_of_not_linkUp down _ _)
  | resetMport => exact same h (State.runFrame_of_not_linkUp down _ _)
  | takeEventRemoval =>
    refine same h ?_
    obtain frame | frame := quiet.frame <;> rw [frame]
  | badCommand code => exact same h (if_neg noByte)
  | frameDeselect => cases h; exact quiet.withFrame (.inl rfl)
  | windowExpiry g => exact same h (State.expireWindow_of_not_due (quiet.groups g _))
  | deadlineExpiry i =>
    exact same h (State.expireDeadline_of_not_due fun m defined => by simp [(quiet.matchers i m defined).2])
  | pulseEnd =>
    cases h
    split
    · exact quiet.congr _ _ _ _ _ _
    · exact quiet
  | repulseGapEnd => exact same h (if_neg (by simp [quiet.gap]))
  | coalescingClose => exact same h (if_neg (by simp [State.closingDue_iff, quiet.marks.1]))
  | powerOnReset => exact quiet_of_powerOnReset h
  | lineResetAssert =>
    cases h
    split
    · exact quiet
    · split
      · exact quiet.congr _ _ _ _ _ _
      · exact Quiet.lineReset s
  | lineResetRelease =>
    obtain line | line := Bool.eq_false_or_eq_true s.rstAsserted
    · obtain power | power := Bool.eq_false_or_eq_true s.powerOn
      · simp only [Machine.exec, execLineResetRelease, line, power, Bool.not_true, Bool.false_eq_true, if_false,
          if_true] at h
        cases h
        exact quiet.congr _ _ _ _ _ _
      · simp only [Machine.exec, execLineResetRelease, line, power, Bool.not_true, Bool.false_eq_true, if_false] at h
        cases h
        exact absurd ⟨State.appendEvent_rstAsserted _ _, State.appendEvent_powerOn _ _⟩ still
    · simp only [Machine.exec, execLineResetRelease, line, Bool.not_false, if_true] at h
      cases h
      exact quiet
  | selectPeriodBegin =>
    cases h
    unfold State.select
    split
    · have phase : (if s.slinkTakes = true then Frame.command else .ignored) = .ignored := if_neg noByte
      rw [phase]
      have framed := quiet.withFrame (f := .ignored) (.inr rfl)
      rwa [← quiet.marks.2] at framed
    · exact quiet
  | slinkByteTaken b => exact same h (if_neg noByte)
  | powerOnResetEnd =>
    cases h
    split
    · dsimp only
      split
      · exact Quiet.lineReset _
      · exact quiet.congr _ _ _ _ _ _
    · exact quiet

/-- Settles O59: a reset begins quiet, and while it lasts no command changes that. -/
theorem resetStaysQuiet : Obligations.ResetStaysQuiet := by
  intro s t quiet h still
  obtain ⟨-, rfl⟩ | ⟨c, rest, -, h⟩ := step_cases h
  · obtain ⟨u, ticked⟩ := s.tick_touches
    rw [ticked] at still ⊢
    exact (quiet still).congr _ _ _ _ _ _
  · by_cases up : LinkUp { s with pending := rest }
    · exact quiet_of_linkUp up h still
    · exact ((quiet up).congr s.rstAsserted s.powerOn s.timeBase s.pulse s.choices rest).exec up h still

/-- Settles O60: the state after power-on reset is empty, and its configuration is the default one. -/
theorem soundAtReset : Obligations.SoundAtReset := by
  obtain ⟨table, settled⟩ := tableLaw_empty (s := State.reset) rfl rfl rfl rfl
  exact ⟨logSound_empty rfl rfl rfl rfl rfl rfl (.inl rfl), configuration_reset.1, configuration_reset.2, table, settled,
    Quiet.reset, rfl, rfl⟩

end Sys2Proof.Machine
end

section
/-! SUPPORT and PROOFS. The transaction table and the ports: promotion (O21), the arbiter (O22), what stands offered and is
taken (O23), and the bounds that the laws of the table give (O32). -/

namespace Sys2Proof.Machine

/-! ### Promotion (R66) -/

theorem touchedWords_none (w : WordAddr) : touchedWords w none = [w] := rfl

theorem touchedWords_self (w : WordAddr) : touchedWords w (some w) = [w] := if_pos rfl

theorem touchedWords_other {w c : WordAddr} (h : c ≠ w) : touchedWords w (some c) = [w, c] := if_neg h

/-- The records behind the older ones are promoted behind the words of the older ones. -/
theorem promoteFrom_append (held : List WordAddr) (older rest : List Txn) : promoteFrom held (older ++ rest)
    = promoteFrom held older ++ promoteFrom (held ++ older.flatMap (·.touched)) rest := by
  induction older generalizing held with
  | nil => simp [promoteFrom]
  | cons t older ih => simp [promoteFrom, ih, List.append_assoc]

theorem promoteFrom_length (held : List WordAddr) (table : List Txn) : (promoteFrom held table).length = table.length := by
  have same := congrArg List.length (map_promoteFrom Txn.htag (fun _ => rfl) held table)
  rwa [List.length_map, List.length_map] at same

/-- What a promotion makes of the record at one place. -/
theorem State.promote_at {s : State} {older younger : List Txn} {x : Txn} (split : s.table = older ++ x :: younger) :
    s.promote.table[older.length]? = some
      (if x.state = .waiting ∧ blockedBy (s.orphanWords ++ older.flatMap (·.touched)) x.touched = false then
        { x with state := .ready } else x) := by
  have place : (promoteFrom s.orphanWords older).length = older.length := promoteFrom_length _ _
  simp only [State.promote, split, promoteFrom_append, promoteFrom]
  rw [← place, List.getElem?_append_right (Nat.le_refl _), Nat.sub_self]
  rfl

theorem clear_of_held_iff (s : State) (older : List Txn) (x : Txn) :
    blockedBy (s.orphanWords ++ older.flatMap (·.touched)) x.touched = false
      ↔ ∀ w ∈ x.touched, w ∉ s.orphanWords ∧ ∀ y ∈ older, w ∉ y.touched := by
  simp [blockedBy_eq_false_iff]

/-- Settles O21: a promotion goes along the table with the words held so far. -/
theorem promotionRule : Obligations.PromotionRule := by
  refine ⟨State.mem_orphanWords, fun w c => ⟨touchedWords_none w, touchedWords_self w, touchedWords_other⟩,
    fun s => ⟨rfl, promoteFrom_length _ _, fun older younger x split => ⟨fun waiting clear => ?_, fun held => ?_⟩⟩⟩
  · rw [State.promote_at split, if_pos ⟨waiting, (clear_of_held_iff s older x).mpr clear⟩]
  · rw [State.promote_at split, if_neg]
    rintro ⟨waiting, clear⟩
    have apart := (clear_of_held_iff s older x).mp clear
    obtain past | ⟨w, hw, orphan | ⟨y, hy, touched⟩⟩ := held
    · exact past waiting
    · exact (apart w hw).1 orphan
    · exact (apart w hw).2 y hy touched

/-! ### The arbiter (R68 to R71) -/

theorem State.oldestCandidate_eq_some_iff (s : State) (x : Txn) : s.oldestCandidate = some x ↔ OldestCandidate s x := by
  unfold State.oldestCandidate OldestCandidate
  rw [List.find?_eq_some_iff_append]
  constructor
  · rintro ⟨candidate, older, younger, split, others⟩
    refine ⟨older, younger, split, (s.isCandidate_iff x).mp candidate, fun y hy h => ?_⟩
    have not := others y hy
    rw [(s.isCandidate_iff y).mpr h] at not
    cases not
  · rintro ⟨older, younger, split, candidate, others⟩
    refine ⟨(s.isCandidate_iff x).mpr candidate, older, younger, split, fun y hy => ?_⟩
    rw [Bool.not_eq_true', Bool.eq_false_iff]
    exact fun h => others y hy ((s.isCandidate_iff y).mp h)

theorem State.oldestCandidate_eq_none_iff (s : State) : s.oldestCandidate = none ↔ ∀ x ∈ s.table, ¬ Candidate s x := by
  simp [State.oldestCandidate, List.find?_eq_none, ← s.isCandidate_iff]

theorem State.lowestFreeTag_eq_some_iff (s : State) (m : MTag) : s.lowestFreeTag = some m ↔ LowestFree s m := by
  unfold State.lowestFreeTag LowestFree
  rw [← Fin.find?_eq_find?_finRange, Fin.find?_eq_some_iff]
  simp

theorem State.lowestFreeTag_eq_none_iff (s : State) : s.lowestFreeTag = none ↔ ∀ m, s.tag m ≠ .free := by
  simp [State.lowestFreeTag, List.find?_eq_none]

theorem State.arbitrate_of_grant {s : State} {x : Txn} {m : MTag} (ready : s.port = .ready) (unoffered : s.onOffer = none)
    (oldest : OldestCandidate s x) (lowest : LowestFree s m) : s.arbitrate = s.grantTo x m := by
  unfold State.arbitrate
  rw [if_pos (s.mayGrant_iff.mpr ⟨ready, unoffered⟩), (s.lowestFreeTag_eq_some_iff m).mpr lowest,
    (s.oldestCandidate_eq_some_iff x).mpr oldest]

theorem forwardPurpose_eq (kind : AccessKind) :
    forwardPurpose kind = if kind = .read then .forwardRead else .forwardWrite := by
  cases kind <;> rfl

/-- Settles O22: the arbiter's two searches find the oldest candidate and the lowest FREE tag. -/
theorem arbiterRule : Obligations.ArbiterRule := by
  intro s
  refine ⟨fun x m ready unoffered oldest lowest => ?_, fun closed => ?_⟩
  · rw [State.arbitrate_of_grant ready unoffered oldest lowest]
    refine ⟨fun state verify => ?_, fun forward => ?_⟩
    · rw [State.grantTo, if_pos ⟨state, verify⟩]
      rfl
    · rw [State.grantTo, if_neg, State.grantForward_eq, forwardGrant, forwardPurpose_eq]
      · rfl
      · rintro ⟨state, verify⟩
        obtain pending | needs := forward
        · cases state.symm.trans pending
        · cases verify.symm.trans needs
  · obtain ⟨x, m, may, oldest, lowest, -⟩ | ⟨-, same⟩ := s.arbitrate_cases
    · obtain ⟨ready, unoffered⟩ := s.mayGrant_iff.mp may
      obtain notReady | offered | none_ | none_ := closed
      · exact absurd ready notReady
      · exact absurd unoffered offered
      · exact nomatch (s.oldestCandidate_eq_none_iff.mpr none_).symm.trans oldest
      · exact nomatch (s.lowestFreeTag_eq_none_iff.mpr none_).symm.trans lowest
    · exact same

/-! ### What stands offered (R77, R82) and is taken (R21, R78, R86) -/

theorem Timing.limit_eq (t : Timing) (p : Purpose) :
    t.limit p = if p = .verify then t.verifyLimit else t.forwardLimit := by
  cases p <;> rfl

theorem State.takeOffer_of_offer {s : State} {m : MTag} {a : ActiveTag} (offer : s.onOffer = some m)
    (active : s.tag m = .active a) : s.takeOffer = State.arbitrate
      { s.setTag m (.active { a with taken := some (s.timeBase,
          if a.purpose = .verify then s.timing.verifyLimit else s.timing.forwardLimit) }) with onOffer := none } := by
  simp only [State.takeOffer, offer, active, Timing.limit_eq]

theorem State.deliver_of_queue {s : State} {h : HTag} {rest : List HTag} (queue : s.deliveries = h :: rest) :
    s.deliver = State.arbitrate (State.promote
      { s with deliveries := rest, table := s.table.filter (fun x => x.htag != h) }) := by
  simp only [State.deliver, queue]

theorem State.mportRequest_of_verify {s : State} {m : MTag} {a : ActiveTag} (offer : s.onOffer = some m)
    (active : s.tag m = .active a) (purpose : a.purpose = .verify) :
    s.mportRequest = some ⟨m, .read, a.word, 0b1111, 0⟩ := by
  simp only [State.mportRequest, offer, active, purpose]

theorem State.mportRequest_of_forward {s : State} {m : MTag} {a : ActiveTag} {x : Txn} (offer : s.onOffer = some m)
    (active : s.tag m = .active a) (purpose : a.purpose ≠ .verify) (found : s.txn? a.owner = some x) :
    s.mportRequest = some ⟨m, x.kind, x.word, x.lanes, if x.kind = .write then x.data else 0⟩ := by
  have data : (match x.kind with | .read => 0 | .write => x.data) = if x.kind = .write then x.data else 0 := by
    cases x.kind <;> rfl
  simp only [State.mportRequest, offer, active]
  split
  · next verify => exact absurd verify purpose
  · rw [found, ← data]; rfl
  · rw [found, ← data]; rfl

theorem State.mrstAsserted_iff (s : State) :
    s.mrstAsserted = true ↔ s.port ≠ .ready ∨ s.rstAsserted = true ∨ s.powerOn = true := by
  simp [State.mrstAsserted, State.mportResetting, or_assoc]

/-- Settles O23: each port offers the head of its queue, and the taking removes it. -/
theorem queueHeadsAreTaken : Obligations.QueueHeadsAreTaken := by
  intro s
  refine ⟨fun a rest queue => ⟨?_, ?_⟩, fun h rest queue => congrArg Host.Outcome.next (State.deliver_of_queue queue),
    fun m a offer active => congrArg Host.Outcome.next (State.takeOffer_of_offer offer active), fun empty => ⟨?_, ?_⟩,
    fun empty => ?_, fun empty => ?_, fun empty => ?_, fun h rest x status data queue found response => ?_, fun empty => ?_,
    fun m a offer active => ⟨State.mportRequest_of_verify offer active,
      fun purpose x found => State.mportRequest_of_forward offer active purpose found⟩, s.mrstAsserted_iff⟩
  · simp [State.answerReady, queue]
  · simp [exec, execAnswerTaken, queue]
  · simp [State.answerReady, empty]
  · exact congrArg Host.Outcome.next (State.with_answers_eq_self (by rw [empty]; rfl))
  · simp [exec, execDelivery, State.deliver, empty]
  · simp [exec, execMportRequestTaken, State.takeOffer, empty]
  · simp [State.deliveryReady, empty]
  · simp [State.deliveryReady, queue, found, response, (State.txn?_some found).2]
  · simp [State.mportRequest, empty]

/-! ### Bounds (R60, R77, R85) -/

theorem TagEntry.word?_eq_some_iff (e : TagEntry) (w : WordAddr) : e.word? = some w ↔
    (∃ a, e = .active a ∧ a.word = w) ∨ ∃ o, e = .orphaned o ∧ o.word = w := by
  cases e <;> simp [TagEntry.word?]

/-- The record that an ACTIVE tag serves is past WAITING, not COMPLETE, and touches the tag's word. -/
theorem TableSound.served_touches {s : State} (law : TableSound s) {m : MTag} {a : ActiveTag} (active : s.tag m = .active a) :
    ∃ x ∈ s.table, x.mtag = some m ∧ a.word ∈ x.touched ∧ x.state ≠ .waiting ∧ x.state ≠ .complete := by
  obtain ⟨x, -, hx, -, mine, word, -⟩ := law.served active
  obtain ⟨shape, entered⟩ := law.shapes x hx
  refine ⟨x, hx, mine, word ▸ Txn.requestWord_mem_touched entered, ?_⟩
  obtain state | state := Txn.state_of_mtag shape mine <;> simp [state]

/-- The two records are not both past WAITING, or touch no common word. -/
def Txn.ApartFrom (y x : Txn) : Prop := y.state ≠ .waiting → x.state ≠ .waiting → List.Disjoint y.touched x.touched

/-- Two records past WAITING touch no common word. -/
theorem Apart.eq_of_common {orphans : List WordAddr} {table : List Txn} (apart : Apart orphans table) {x y : Txn}
    (hx : x ∈ table) (hy : y ∈ table) (px : x.state ≠ .waiting) (py : y.state ≠ .waiting) {w : WordAddr}
    (wx : w ∈ x.touched) (wy : w ∈ y.touched) : x = y := by
  by_contra ne
  have symm : Std.Symm Txn.ApartFrom := ⟨fun _ _ h p q => (h q p).symm⟩
  have disjoint : table.Pairwise Txn.ApartFrom := apart.records.imp fun clear _ past => fun w hy hx => clear past w hx hy
  exact disjoint.forall hx hy ne px py wx wy

/-- No two M-tags in use carry the same word: a word is served for one record at a time, and an orphan holds it back. -/
theorem TableSound.distinctTagWords {s : State} (law : TableSound s) : DistinctTagWords s := by
  have apart := ((tableSound_iff s).mp law).1.apart
  have mixed : ∀ {m n a o}, s.tag m = .active a → s.tag n = .orphaned o → a.word ≠ o.word := by
    intro m n a o active orphan same
    obtain ⟨x, hx, -, word, past, unfinished⟩ := law.served_touches active
    exact apart.orphans x hx unfinished past _ word ((s.mem_orphanWords _).mpr ⟨n, o, orphan, same.symm⟩)
  intro m n w hm hn
  obtain ⟨a, active, rfl⟩ | ⟨o, orphan, rfl⟩ := ((s.tag m).word?_eq_some_iff w).mp hm
  · obtain ⟨b, active', same⟩ | ⟨o, orphan, same⟩ := ((s.tag n).word?_eq_some_iff _).mp hn
    · obtain ⟨x, hx, mine, word, past, -⟩ := law.served_touches active
      obtain ⟨y, hy, mine', word', past', -⟩ := law.served_touches active'
      obtain rfl := apart.eq_of_common hx hy past past' word (same ▸ word')
      exact Option.some.inj (mine.symm.trans mine')
    · exact absurd same.symm (mixed active orphan)
  · obtain ⟨b, active', same⟩ | ⟨o', orphan', same⟩ := ((s.tag n).word?_eq_some_iff _).mp hn
    · exact absurd same (mixed active' orphan)
    · exact (s.orphanWords_nodup_iff).mp law.orphans m n o o' orphan orphan' same.symm

/-- Settles O32: sixteen H-tags name at most sixteen records, and every queued response is a record's. -/
theorem tableBounds : Obligations.TableBounds := by
  intro s law
  refine ⟨?_, ?_, law.distinctTagWords⟩
  · simpa using law.distinct.length_le_card
  · have queued : s.deliveries ⊆ s.table.map Txn.htag := by
      intro h hh
      obtain ⟨t, ht, name, -⟩ := (law.queued h).mp hh
      exact List.mem_map.mpr ⟨t, ht, name⟩
    simpa using (law.queue.subperm queued).length_le

end Sys2Proof.Machine
end

section
/-! SUPPORT and PROOFS. The memory port: what a response and a limit do with the record they end (O24 to O30), and that a
verdict does not read the configuration (O20). -/

namespace Sys2Proof.Machine

/-! ### Which responses are taken (R84), and what they report (Table 5-4) -/

theorem attemptedData_eq (kind : AccessKind) (lanes : Lanes) (d : Word) :
    attemptedData kind lanes d = if kind = .write then some (d &&& laneBits lanes) else none := by
  cases kind <;> rfl

theorem lateReason_eq (status : MemStatus) : lateReason status = if status = .error then some .error else none := by
  cases status <;> rfl

theorem forwardData_eq (kind : AccessKind) (d : Word) : forwardData kind d = if kind = .read then d else 0 := by
  cases kind <;> rfl

theorem exec_response_of_ready {s : State} (resp : MemResponse) (ready : s.port = .ready) (up : LinkUp s) :
    exec (.mportResponseTaken resp) s = .next (s.respond resp) :=
  congrArg Host.Outcome.next (if_pos (s.handlesResponses_iff.mpr ⟨ready, up⟩))

theorem exec_response_of_not_ready {s : State} (resp : MemResponse) (h : ¬ (s.port = .ready ∧ LinkUp s)) :
    exec (.mportResponseTaken resp) s = .next s :=
  congrArg Host.Outcome.next (if_neg fun handles => h (s.handlesResponses_iff.mp handles))

theorem State.respond_of_taken {s : State} {resp : MemResponse} {a : ActiveTag} (active : s.tag resp.tag = .active a)
    (taken : a.taken.isSome = true) : s.respond resp = s.activeResponse resp.tag a resp.status resp.data := by
  obtain ⟨p, taken⟩ := Option.isSome_iff_exists.mp taken
  simp only [State.respond, active, taken]

theorem State.respond_of_stray {s : State} {resp : MemResponse}
    (h : s.tag resp.tag = .free ∨ ∃ a, s.tag resp.tag = .active a ∧ a.taken = none) :
    s.respond resp = s.strayResponse resp.status := by
  obtain free | ⟨a, active, untaken⟩ := h
  · simp only [State.respond, free]
  · simp only [State.respond, active, untaken]

/-- Settles O24: the response is taken in a READY port out of reset alone, and a stray is only reported. -/
theorem responseDiscardedOrStray : Obligations.ResponseDiscardedOrStray := by
  intro resp s
  refine ⟨fun closed => exec_response_of_not_ready resp ?_, fun ready up stray => ?_⟩
  · rintro ⟨ready, rst, power⟩
    obtain h | h | h := closed
    · exact h ready
    · exact nomatch rst.symm.trans h
    · exact nomatch power.symm.trans h
  · rw [exec_response_of_ready resp ready up, State.respond_of_stray stray, State.strayResponse, lateReason_eq]
    rfl

/-! ### Forwards (R74, R75) -/

theorem State.complete_arbitrate (s : State) (h : HTag) (status : HostStatus) (d : Word) :
    (s.complete h status d).arbitrate = State.arbitrate
      { s.updateTxn h (fun y => y.answered status d) with deliveries := s.deliveries ++ [h] } := rfl

theorem recordEvent_eq (x : Txn) (kind : EventKind) (reason : Option Reason) (word : WordAddr) :
    recordEvent x kind reason word =
      { kind := kind, reason := reason, region := x.region?, access := some ⟨x.htag, x.kind, x.lanes⟩, word := some word,
        attempted := if x.kind = .write then some (x.data &&& laneBits x.lanes) else none } := by
  rw [recordEvent, attemptedData_eq]

section

variable {s : State} {m : MTag} {a : ActiveTag} {x : Txn}

theorem State.activeResponse_of_forward (found : s.txn? a.owner = some x) (purpose : a.purpose ≠ .verify) (d : Word) :
    s.activeResponse m a .okay d = (s.setTag m .free).forwardCompletes x d
      ∧ s.activeResponse m a .error d = (s.setTag m .free).forwardFails x .forwardFault := by
  simp only [State.activeResponse, found]
  cases kind : a.purpose with
  | verify => exact absurd kind purpose
  | forwardRead => exact ⟨rfl, rfl⟩
  | forwardWrite => exact ⟨rfl, rfl⟩

theorem State.expireForward_of_expired (active : s.tag m = .active a) (purpose : a.purpose ≠ .verify)
    (due : a.expired s.timeBase = true) (found : s.txn? a.owner = some x) :
    s.expireForward m = (s.setTag m (.orphaned (orphanOf a x))).forwardFails x .forwardTimeout := by
  simp [State.expireForward, active, purpose, due, found]

theorem State.expireVerify_of_expired (active : s.tag m = .active a) (purpose : a.purpose = .verify)
    (due : a.expired s.timeBase = true) (found : s.txn? a.owner = some x) :
    s.expireVerify m = (s.setTag m (.orphaned (orphanOf a x))).verifyFails x a.word .timeout := by
  simp [State.expireVerify, active, purpose, due, found]

theorem State.activeResponse_of_verifyError (found : s.txn? a.owner = some x) (purpose : a.purpose = .verify) (d : Word) :
    s.activeResponse m a .error d = (s.setTag m .free).verifyFails x a.word .error := by
  simp only [State.activeResponse, found, purpose]

theorem State.activeResponse_of_verdict (found : s.txn? a.owner = some x) (purpose : a.purpose = .verify) {snap : Snapshot}
    (watched : x.classification = .watchedWrite snap) (d : Word) :
    s.activeResponse m a .okay d = (s.setTag m .free).reachVerdict x snap d := by
  simp only [State.activeResponse, found, purpose, watched]

theorem ActiveTag.expired_of_reached {now start : Time} {limit : BitVec 16} (taken : a.taken = some (start, limit))
    (reached : limit.toNat ≤ (now - start).toNat) : a.expired now = true :=
  (a.expired_iff now).mpr ⟨start, limit, taken, reached⟩

end

/-- Settles O25: the response forms the answer, and the notice goes to the matchers where there is a region. -/
theorem forwardCompletes : Obligations.ForwardCompletes := by
  intro resp a x s ready up okay active taken purpose found
  have done : exec (.mportResponseTaken resp) s = .next ((s.setTag resp.tag .free).forwardCompletes x resp.data) := by
    rw [exec_response_of_ready resp ready up, State.respond_of_taken active taken, okay,
      (State.activeResponse_of_forward found purpose resp.data).1]
  rw [done]
  unfold State.forwardCompletes completionNotice
  refine ⟨fun none_ => ?_, fun i region => ?_⟩
  · rw [none_, forwardData_eq]
    rfl
  · rw [region, forwardData_eq]
    cases x.kind <;> rfl

/-- Settles O26: by response and by expiry the same failure, which frees the tag or orphans it. -/
theorem forwardFails : Obligations.ForwardFails := by
  intro m a x s active purpose found
  refine ⟨fun d ready up taken => ?_, fun start limit taken reached => ?_⟩
  · rw [exec_response_of_ready _ ready up, State.respond_of_taken (resp := ⟨m, .error, d⟩) active taken,
      (State.activeResponse_of_forward found purpose d).2, State.forwardFails, recordEvent_eq]
    rfl
  · refine congrArg Host.Outcome.next ?_
    rw [State.expireForward_of_expired active purpose (ActiveTag.expired_of_reached taken reached) found,
      State.forwardFails, recordEvent_eq]
    rfl

/-! ### Verify reads that fail (R57, R73, R90) -/

theorem State.refusalChains_congr {s t : State} (h : t.matchers = s.matchers) (regions : List RegionIndex) :
    t.refusalChains regions = s.refusalChains regions := by
  have same : ∀ i, t.matcher i = s.matcher i := fun i => congrArg (·[i]) h
  simp only [State.refusalChains, same]

/-- A block that appends one event and gives refusal notices. -/
theorem State.performAll_append_breaks {s u : State} (h : u.matchers = s.matchers) (e : Event)
    (regions : List RegionIndex) :
    BreaksSequences regions [e] u (u.performAll ([.append e] :: s.refusalChains regions)) := by
  refine u.performAll_breaks [e] regions _ ?_
  rw [← State.refusalChains_congr h]
  rfl

theorem State.verifyFails_breaks (s : State) (x : Txn) (word : WordAddr) (reason : Reason) :
    BreaksSequences x.region?.toList
      [{ kind := .verifyFault, reason := some reason, region := x.region?, access := some ⟨x.htag, x.kind, x.lanes⟩,
         word := some word, attempted := if x.kind = .write then some (x.data &&& laneBits x.lanes) else none }]
      (State.latch .memory (State.arbitrate
        { s.updateTxn x.htag (fun y => y.answered .fault 0) with deliveries := s.deliveries ++ [x.htag] }))
      (s.verifyFails x word reason) := by
  rw [← recordEvent_eq]
  exact State.performAll_append_breaks (s := s) (by rw [State.latch_matchers, State.arbitrate_matchers]; rfl) _ _

/-- Settles O27: by response and by expiry the same failure, which frees the tag or orphans it. -/
theorem verifyFails : Obligations.VerifyFails := by
  intro m a x s active purpose found
  refine ⟨fun d ready up taken => ⟨(s.setTag m .free).verifyFails x a.word .error, ?_, ?_⟩,
    fun start limit taken reached => ⟨_, congrArg Host.Outcome.next
      (State.expireVerify_of_expired active purpose (ActiveTag.expired_of_reached taken reached) found), ?_⟩⟩
  · rw [exec_response_of_ready _ ready up, State.respond_of_taken (resp := ⟨m, .error, d⟩) active taken,
      State.activeResponse_of_verifyError found purpose d]
  · exact State.verifyFails_breaks _ x a.word .error
  · exact State.verifyFails_breaks _ x a.word .timeout

/-! ### Verdicts (R54 to R59, R72) -/

theorem verdictRecord_eq {x : Txn} (write : x.kind = .write) (snap : Snapshot) (kind : EventKind) (reason : Reason)
    (v : Word) : verdictRecord x snap kind reason v =
      { kind := kind, reason := some reason, region := some snap.region, access := some ⟨x.htag, .write, x.lanes⟩,
        word := some x.word, attempted := some (x.data &&& laneBits x.lanes), reference := some v } := by
  rw [verdictRecord, attemptedData_eq, write, if_pos rfl]

/-- The verify word is kept and the record goes on in one change of it. -/
theorem State.toIssuePending_verified (s : State) (h : HTag) (v : Word) (note : Option Reason) :
    State.toIssuePending h note (s.updateTxn h (fun y => { y with verifyWord := some v })) =
      State.arbitrate (s.updateTxn h (fun y =>
        { y with verifyWord := some v, state := .issuePending, mtag := none, passNote := note.or y.passNote })) := by
  unfold State.toIssuePending
  rw [State.updateTxn_updateTxn s h (fun y => { y with verifyWord := some v }) _ (fun _ => rfl)]
  rfl

/-- The verify word is kept and the record is answered in one change of it. -/
theorem State.complete_verified (s : State) (h : HTag) (v : Word) (status : HostStatus) :
    State.arbitrate (State.complete h status 0 (s.updateTxn h (fun y => { y with verifyWord := some v }))) =
      State.arbitrate { s.updateTxn h (fun y => Txn.answered { y with verifyWord := some v } status 0) with
        deliveries := s.deliveries ++ [h] } := by
  rw [State.complete_arbitrate,
    State.updateTxn_updateTxn s h (fun y => { y with verifyWord := some v }) _ (fun _ => rfl)]
  rfl

/-- Settles O28: the verdict lets the record wait for its forward, with the note that its flag or its refusal asks for. -/
theorem verifiedWriteGoesOn : Obligations.VerifiedWriteGoesOn := by
  intro resp a x snap s ready up okay active taken purpose found write watched
  have verdict : exec (.mportResponseTaken resp) s = .next ((s.setTag resp.tag .free).reachVerdict x snap resp.data) := by
    rw [exec_response_of_ready resp ready up, State.respond_of_taken active taken, okay,
      State.activeResponse_of_verdict found purpose watched resp.data]
  rw [verdict]
  unfold State.reachVerdict
  refine ⟨fun pass quiet => ?_, fun pass noted => ?_, fun reason refused note => ?_⟩
  · simp only [pass, quiet, State.toIssuePending_verified]
    rfl
  · simp only [pass, noted, State.toIssuePending_verified, verdictRecord_eq write]
    rfl
  · simp only [refused, note, State.toIssuePending_verified, verdictRecord_eq write]
    rfl

/-- Settles O29: the verdict answers the record, and the refusal notice goes out with the event. -/
theorem verifiedWriteRefused : Obligations.VerifiedWriteRefused := by
  intro resp a x snap reason s ready up okay active taken purpose found write watched refused notNote
  have verdict : exec (.mportResponseTaken resp) s = .next (State.refuseVerified x snap
      (if snap.violation = .quiet then .okay else .refused) reason resp.data
      ((s.setTag resp.tag .free).updateTxn x.htag (fun y => { y with verifyWord := some resp.data }))) := by
    rw [exec_response_of_ready resp ready up, State.respond_of_taken active taken, okay,
      State.activeResponse_of_verdict found purpose watched resp.data]
    simp only [State.reachVerdict, refused]
    cases violation : snap.violation with
    | note => exact absurd violation notNote
    | quiet => rfl
    | error => rfl
  refine ⟨_, verdict, ?_⟩
  unfold State.refuseVerified
  rw [State.complete_verified, verdictRecord_eq write]
  exact State.performAll_append_breaks (by rw [State.arbitrate_matchers]; rfl) _ _

/-! ### Late responses (R93) -/

theorem lateEvent_eq (o : OrphanTag) (status : MemStatus) (d : Word) : lateEvent o status d =
    { kind := .lateResponse, reason := if status = .error then some .error else none, region := o.region,
      access := some ⟨o.htag, if o.purpose = .forwardWrite then .write else .read, o.lanes⟩, word := some o.word,
      reference := if status = .okay ∧ o.purpose ≠ .forwardWrite then some d else none } := by
  unfold lateEvent
  cases purpose : o.purpose <;> cases status <;> rfl

/-- The freed tag goes to the oldest candidate after the promotion, or to the one before it (log entry 4). -/
theorem State.promoteAndArbitrate_cases (s : State) :
    s.promoteAndArbitrate = s.promote.arbitrate
      ∨ s.promoteAndArbitrate = State.arbitrate { s.promote with choices := s.choices + 1 }
      ∨ ∃ x m, OldestCandidate s x ∧ LowestFree s m ∧ s.promote.mayGrant = true
          ∧ s.promoteAndArbitrate = State.grantTo x m { s.promote with choices := s.choices + 1 } := by
  unfold State.promoteAndArbitrate
  dsimp only
  split
  · next before now m oldest current lowest =>
    split
    · next both =>
      obtain ⟨may, -⟩ := Bool.and_eq_true_iff.mp both
      obtain ⟨ready, unoffered⟩ := s.promote.mayGrant_iff.mp may
      split
      · exact .inr (.inr ⟨before, m, (s.oldestCandidate_eq_some_iff before).mp oldest,
          (s.lowestFreeTag_eq_some_iff m).mp lowest, may, rfl⟩)
      · refine .inr (.inl (State.arbitrate_of_grant (s := { s.promote with choices := s.promote.choices + 1 }) ready
          unoffered ?_ ?_).symm)
        · exact (s.promote.oldestCandidate_eq_some_iff now).mp current
        · exact (s.promote.lowestFreeTag_eq_some_iff m).mp lowest
    · exact .inl rfl
  · exact .inl rfl

/-- Settles O30: the late response frees the tag, and either order of the freeing and the promotion may grant it. -/
theorem lateResponseFreesTheOrphan : Obligations.LateResponseFreesTheOrphan := by
  intro resp o s ready up orphan
  refine ⟨(s.setTag resp.tag .free).promoteAndArbitrate, ?_, (s.setTag resp.tag .free).promoteAndArbitrate_cases⟩
  rw [exec_response_of_ready resp ready up, ← lateEvent_eq]
  simp only [State.respond, orphan]
  rfl

/-! ### Updates that a block does not see -/

/-- The operation does the same after the update as before it. -/
def Commutes (upd f : State → State) : Prop := ∀ s, f (upd s) = upd (f s)

theorem Commutes.comp {upd f g : State → State} (hg : Commutes upd g) (hf : Commutes upd f) :
    Commutes upd (fun s => g (f s)) := fun s => (congrArg g (hf s)).trans (hg (f s))

/-- An update of nothing that append requests and refusal notices read or write. -/
structure Hidden (upd : State → State) : Prop where
  log : ∀ s, SameLog s (upd s)
  logFrom : ∀ s t, (upd s).logFrom t = upd (s.logFrom t)
  keeps : ∀ s, (upd s).matchers = s.matchers ∧ (upd s).choices = s.choices
  moves : ∀ s ms n, { upd s with matchers := ms, choices := n } = upd { s with matchers := ms, choices := n }

section

variable {upd : State → State} (hidden : Hidden upd)

include hidden

theorem Hidden.append (e : Event) : Commutes upd (State.appendEvent e) := by
  intro s
  rw [State.appendEvent_congr e (hidden.log s), hidden.logFrom, ← s.appendEvent_touches e]

theorem Hidden.appends (es : List Event) (s : State) :
    es.foldl (fun u e => u.appendEvent e) (upd s) = upd (es.foldl (fun u e => u.appendEvent e) s) := by
  induction es generalizing s with
  | nil => rfl
  | cons e es ih => rw [List.foldl_cons, List.foldl_cons, hidden.append e, ih]

theorem Hidden.performAll {chains : List (List Request)} (simple : ∀ chain ∈ chains, ∀ r ∈ chain, r.simple = true) :
    Commutes upd (State.performAll chains) := by
  intro s
  obtain ⟨matchers, choices⟩ := hidden.keeps s
  unfold State.performAll
  rw [choices]
  have order : ∀ r ∈ (interleave chains s.choices).1, r.simple = true := by
    intro r hr
    obtain ⟨chain, hc, hr⟩ := List.mem_flatten.mp ((interleave_perm chains s.choices).mem_iff.mp hr)
    exact simple chain hc r hr
  dsimp only
  rw [perform_simple _ order, perform_simple _ order, matchers, hidden.moves, hidden.appends]

end

theorem State.refusalChains_simple (s : State) (regions : List RegionIndex) :
    ∀ chain ∈ s.refusalChains regions, ∀ r ∈ chain, r.simple = true := by
  intro chain hc r hr
  simp only [State.refusalChains, List.mem_flatMap] at hc
  obtain ⟨i, -, hc⟩ := hc
  split at hc
  · cases hc
  · split at hc
    · cases hc
    · obtain ⟨region, -, rfl⟩ := List.mem_map.mp hc
      obtain rfl := List.mem_singleton.mp hr
      rfl

/-- An append and refusal notices, after changes that commute with the update. -/
theorem Hidden.notices {upd f : State → State} (hidden : Hidden upd) (hf : Commutes upd f) (e : Event)
    (regions : List RegionIndex) :
    Commutes upd (fun s => State.performAll ([.append e] :: s.refusalChains regions) (f s)) := by
  intro s
  have simple : ∀ chain ∈ [Request.append e] :: s.refusalChains regions, ∀ r ∈ chain, r.simple = true := by
    intro chain hc r hr
    obtain rfl | hc := List.mem_cons.mp hc
    · obtain rfl := List.mem_singleton.mp hr
      rfl
    · exact s.refusalChains_simple regions chain hc r hr
  dsimp only
  rw [State.refusalChains_congr (hidden.keeps s).1, hf]
  exact hidden.performAll simple (f s)

/-! ### A verdict and the configuration (R14, R37) -/

/-- The state with another region table, other groups and another mode. -/
def State.reconfigured (regions : Vector (Option Region) 32) (groups : Vector Group 4) (mode : UnitMode) (s : State) :
    State := { s with regions := regions, groups := groups, mode := mode }

section

variable {regions : Vector (Option Region) 32} {groups : Vector Group 4} {mode : UnitMode}

theorem hidden_reconfigured : Hidden (State.reconfigured regions groups mode) :=
  ⟨fun _ => ⟨rfl, rfl, rfl⟩, fun _ _ => rfl, fun _ => ⟨rfl, rfl⟩, fun _ _ _ => rfl⟩

theorem arbitrate_reconfigured : Commutes (State.reconfigured regions groups mode) State.arbitrate := by
  intro s
  obtain ⟨t, m, may, oldest, lowest, h⟩ | ⟨none_, h⟩ := s.arbitrate_cases <;> rw [h]
  · obtain ⟨ready, unoffered⟩ := s.mayGrant_iff.mp may
    rw [State.arbitrate_of_grant (s := s.reconfigured regions groups mode) ready unoffered
      ((s.oldestCandidate_eq_some_iff t).mp oldest) ((s.lowestFreeTag_eq_some_iff m).mp lowest)]
    unfold State.grantTo
    split <;> rfl
  · obtain ⟨t, m, may, oldest, lowest, -⟩ | ⟨-, h'⟩ := (s.reconfigured regions groups mode).arbitrate_cases
    · obtain closed | noCandidate | noTag := none_
      · exact nomatch may.symm.trans closed
      · exact nomatch oldest.symm.trans noCandidate
      · exact nomatch lowest.symm.trans noTag
    · exact h'

theorem complete_reconfigured (h : HTag) (status : HostStatus) (d : Word) :
    Commutes (State.reconfigured regions groups mode) (fun s => (s.complete h status d).arbitrate) :=
  fun s => arbitrate_reconfigured (s.complete h status d)

theorem toIssuePending_reconfigured (h : HTag) (note : Option Reason) :
    Commutes (State.reconfigured regions groups mode) (State.toIssuePending h note) :=
  fun s => arbitrate_reconfigured (s.updateTxn h _)

theorem refuseVerified_reconfigured (x : Txn) (snap : Snapshot) (status : HostStatus) (reason : Reason) (v : Word) :
    Commutes (State.reconfigured regions groups mode) (State.refuseVerified x snap status reason v) :=
  hidden_reconfigured.notices (complete_reconfigured x.htag status 0) _ _

theorem verifyFails_reconfigured (x : Txn) (word : WordAddr) (reason : Reason) :
    Commutes (State.reconfigured regions groups mode) (State.verifyFails x word reason) :=
  hidden_reconfigured.notices (Commutes.comp (g := State.latch .memory) (fun _ => rfl)
    (complete_reconfigured x.htag .fault 0)) _ _

theorem reachVerdict_reconfigured (x : Txn) (snap : Snapshot) (v : Word) :
    Commutes (State.reconfigured regions groups mode) (State.reachVerdict x snap v) := by
  intro s
  have kept : Commutes (State.reconfigured regions groups mode)
      (State.updateTxn x.htag (fun t => { t with verifyWord := some v })) := fun _ => rfl
  unfold State.reachVerdict
  dsimp only
  split
  · split
    · exact ((hidden_reconfigured.append _).comp ((toIssuePending_reconfigured x.htag none).comp kept)) s
    · exact ((toIssuePending_reconfigured x.htag none).comp kept) s
  · split
    · exact ((refuseVerified_reconfigured x snap _ _ v).comp kept) s
    · exact ((refuseVerified_reconfigured x snap _ _ v).comp kept) s
    · exact ((hidden_reconfigured.append _).comp ((toIssuePending_reconfigured x.htag _).comp kept)) s

theorem activeResponse_reconfigured (m : MTag) {a : ActiveTag} (purpose : a.purpose = .verify) (status : MemStatus)
    (d : Word) : Commutes (State.reconfigured regions groups mode) (State.activeResponse m a status d) := by
  intro s
  have freed : Commutes (State.reconfigured regions groups mode) (State.setTag m .free) := fun _ => rfl
  have same : (s.reconfigured regions groups mode).txn? a.owner = s.txn? a.owner := rfl
  unfold State.activeResponse
  dsimp only
  rw [same, purpose]
  cases s.txn? a.owner with
  | none => exact (arbitrate_reconfigured.comp freed) s
  | some x =>
    cases status with
    | error => exact ((verifyFails_reconfigured x a.word .error).comp freed) s
    | okay =>
      dsimp only
      split
      · exact ((reachVerdict_reconfigured x _ d).comp freed) s
      · exact (arbitrate_reconfigured.comp freed) s
      · exact (arbitrate_reconfigured.comp freed) s

end

/-- Settles O20: each part of the response's effect is the same under another configuration. -/
theorem verdictIgnoresTheConfiguration : Obligations.VerdictIgnoresTheConfiguration := by
  intro resp a s regions groups mode active purpose
  by_cases open_ : s.port = .ready ∧ LinkUp s
  · obtain ⟨ready, up⟩ := open_
    refine ⟨_, exec_response_of_ready resp ready up,
      (exec_response_of_ready (s := s.reconfigured regions groups mode) resp ready up).trans (congrArg Host.Outcome.next ?_)⟩
    cases taken : a.taken.isSome with
    | true =>
      rw [State.respond_of_taken active taken,
        State.respond_of_taken (s := s.reconfigured regions groups mode) active taken]
      exact activeResponse_reconfigured resp.tag purpose resp.status resp.data s
    | false =>
      have stray : ∃ b, s.tag resp.tag = .active b ∧ b.taken = none := ⟨a, active, by simpa using taken⟩
      rw [State.respond_of_stray (.inr stray),
        State.respond_of_stray (s := s.reconfigured regions groups mode) (.inr stray)]
      exact hidden_reconfigured.append _ s.latchMemory
  · exact ⟨s, exec_response_of_not_ready resp open_,
      exec_response_of_not_ready (s := s.reconfigured regions groups mode) resp open_⟩

end Sys2Proof.Machine
end

section
/-! SUPPORT and PROOFS. The rows of the management commands: each is its frame's effect event, and what the event leaves is
read off the command (O31, O37, O38, O44, O49). -/

namespace Sys2Proof.Machine

/-! ### The frame and the blocks -/

/-- The state with another frame. -/
def State.withFrame (f : Frame) (s : State) : State := { s with frame := f }

theorem hidden_withFrame (f : Frame) : Hidden (State.withFrame f) :=
  ⟨fun _ => ⟨rfl, rfl, rfl⟩, fun _ _ => rfl, fun _ => ⟨rfl, rfl⟩, fun _ _ _ => rfl⟩

/-- An operation that neither reads nor writes the frame. -/
def FrameBlind (op : State → State) : Prop := ∀ f, Commutes (State.withFrame f) op

theorem frameBlind_append (e : Event) : FrameBlind (State.appendEvent e) := fun f => (hidden_withFrame f).append e

theorem frameBlind_openGroup (g : GroupIndex) (d : BitVec 16) (m : Option MatcherIndex) :
    FrameBlind (State.openGroup g d m) := by
  intro f s
  have same : (s.withFrame f).group g = s.group g := rfl
  unfold State.openGroup
  rw [same]
  cases s.group g with
  | closed => exact frameBlind_append _ f (s.setGroup g _)
  | frozen => exact frameBlind_append _ f s
  | opened e =>
    by_cases longer : remaining s.timeBase e < d.toNat * 1000
    · have longer' : remaining (s.withFrame f).timeBase e < d.toNat * 1000 := longer
      simp only [if_pos longer, if_pos longer']
      exact frameBlind_append _ f (s.setGroup g _)
    · have longer' : ¬ remaining (s.withFrame f).timeBase e < d.toNat * 1000 := longer
      simp only [if_neg longer, if_neg longer']
      exact frameBlind_append _ f s

theorem frameBlind_closeGroup (g : GroupIndex) : FrameBlind (State.closeGroup g) := by
  intro f s
  have same : (s.withFrame f).group g = s.group g := rfl
  unfold State.closeGroup
  rw [same]
  cases s.group g with
  | closed => rfl
  | frozen => rfl
  | opened e => exact frameBlind_append _ f (s.setGroup g _)

theorem frameBlind_freezeGroup (g : GroupIndex) (m : Option MatcherIndex) : FrameBlind (State.freezeGroup g m) := by
  intro f s
  have same : (s.withFrame f).group g = s.group g := rfl
  unfold State.freezeGroup
  rw [same]
  cases s.group g with
  | closed => exact frameBlind_append _ f (s.setGroup g _)
  | frozen => rfl
  | opened e => exact frameBlind_append _ f (s.setGroup g _)

theorem frameBlind_startMportReset : FrameBlind State.startMportReset := fun f s =>
  (hidden_withFrame f).performAll (s.refusalChains_simple (abortedRegions s.table)) s.abortAll.promote

/-- The latches and the gap after an acknowledgement (R152, R153). -/
def State.acknowledgedLatches (c : CauseSet) (s : State) : CauseSet :=
  ⟨s.latches.log && !c.log || c.log && decide (s.timing.threshold.toNat ≤ s.records.length), s.latches.lost && !c.lost,
    s.latches.sequence && !c.sequence, s.latches.memory && !c.memory⟩

theorem State.acknowledge_eq (c : CauseSet) (s : State) : s.acknowledge c =
    { s with
      latches := s.acknowledgedLatches c
      gap := if s.timing.attnMode = .repulse ∧ s.gap = none ∧ ((s.acknowledgedLatches c).inter s.mask).any = true then
        some (after s.timeBase repulseGapLength) else s.gap } := by
  have latches : (if c.log then State.latchLogAtThreshold { s with latches := s.latches.diff c }
      else { s with latches := s.latches.diff c }) = { s with latches := s.acknowledgedLatches c } := by
    unfold State.latchLogAtThreshold State.atThreshold State.acknowledgedLatches CauseSet.diff
    cases log : c.log with
    | false => simp
    | true => by_cases full : s.timing.threshold.toNat ≤ s.records.length <;> simp [full, State.latch, CauseSet.insert]
  unfold State.acknowledge
  dsimp only
  rw [latches]
  cases mode : s.timing.attnMode with
  | steady => simp
  | repulse =>
    cases gap : s.gap with
    | some e => simp
    | none =>
      by_cases heard : ((s.acknowledgedLatches c).inter s.mask).any = true <;> simp [State.unmaskedLatched, heard]

theorem frameBlind_acknowledge (c : CauseSet) : FrameBlind (State.acknowledge c) := by
  intro f s
  rw [State.acknowledge_eq, State.acknowledge_eq]
  rfl

/-! ### A row is the effect event of its frame (log entry 10) -/

theorem exec_of_frameOf {i : Instr} {c : Command} {args : List Byte} (h : frameOf i = some (c, args)) (s : State) :
    exec i s = .next (s.runFrame c args) := by
  cases i <;> cases h <;> rfl

/-- The state in which a new frame waits for its command byte. -/
def State.atCommand (s : State) : State := { s with frame := .command, taking := false }

theorem State.newFrame_of_linkUp {s : State} (up : LinkUp s) : s.newFrame = s.atCommand := by
  rw [s.newFrame_eq, if_pos ((s.slinkTakes_iff_linkUp).mpr up)]
  rfl

/-- The effect of a command that the lock does not refuse. -/
def carryAllowed (c : Command) (args : List Byte) (s : State) : Carried :=
  match c with
  | .readStatus => carryReadStatus s
  | .setMode => carrySetMode args s
  | .lockConfig => carryLockConfig s
  | .setTiming => carrySetTiming args s
  | .fetchTiming => carryFetchTiming s
  | .loadRegion => carryLoadRegion args s
  | .fetchRegion => carryFetchRegion args s
  | .dropRegion => carryDropRegion args s
  | .loadSequence => carryLoadSequence args s
  | .fetchSequence => carryFetchSequence args s
  | .dropSequence => carryDropSequence args s
  | .openWindow => carryOpenWindow args s
  | .closeWindow => carryCloseWindow args s
  | .freezeGroup => carryFreezeGroup args s
  | .takeEvent => carryTakeEvent s
  | .ackAttn => carryAckAttn args s
  | .setAttnMask => carrySetAttnMask args s
  | .resetMport => carryResetMport s

theorem State.carryOut_of_allowed {c : Command} {s : State} (h : s.lock = false ∨ c.allowedUnderLock = true)
    (args : List Byte) : s.carryOut c args = carryAllowed c args s := by
  have pass : ¬ (s.lock && !c.allowedUnderLock) = true := by
    obtain h | h := h <;> simp [h]
  unfold State.carryOut
  rw [if_neg pass]
  cases c <;> rfl

theorem State.carryOut_of_locked {c : Command} {s : State} (lock : s.lock = true) (h : c.allowedUnderLock = false)
    (args : List Byte) : s.carryOut c args = .refuse c .locked s := by
  unfold State.carryOut
  rw [if_pos (by simp [lock, h])]

section

variable {s : State} {c : Command} {args : List Byte} (up : LinkUp s)

include up

theorem State.runFrame_of_linkUp : s.runFrame c args = s.atCommand.effectEvent c args := by
  unfold State.runFrame
  rw [if_pos ((s.slinkTakes_iff_linkUp).mpr up), State.newFrame_of_linkUp up]

/-- A command that the unit refuses, or that only replies. -/
theorem State.runFrame_of_reply {r : Result} {reply : List Byte}
    (h : s.atCommand.carryOut c args = ⟨r, reply, s.atCommand⟩) : s.runFrame c args = s.answered c r reply := by
  rw [State.runFrame_of_linkUp up, State.effectEvent, h]
  rfl

/-- A command that is carried out and has no reply. -/
theorem State.runFrame_of_ok {op : State → State} (blind : FrameBlind op)
    (h : s.atCommand.carryOut c args = .ok (op s.atCommand)) : s.runFrame c args = op (s.answered c .done []) := by
  rw [State.runFrame_of_linkUp up, State.effectEvent, h]
  exact (blind (.output c .turnaround .done []) s.atCommand).symm

end

/-! ### RESET_MPORT (R96, R99) -/

theorem State.endMportReset_of_due {s : State} {n : Nat} (due : s.port = .resetting s.timeBase n) :
    s.endMportReset = State.appendEvent { kind := .mportResetDone, count := some (BitVec.ofNat 16 n) }
      (State.latch .memory (State.arbitrate { s with port := .ready })) := by
  simp only [State.endMportReset, due, beq_self_eq_true, if_true]
  rfl

/-- Settles O31: the row is the abort of every record in flight, with their refusal notices. -/
theorem mportReset : Obligations.MportReset := by
  intro s
  refine ⟨fun up ready => ?_, fun up busy => ?_, fun n due => congrArg Host.Outcome.next (State.endMportReset_of_due due)⟩
  · have carried : s.atCommand.carryOut .resetMport [] = .ok s.atCommand.startMportReset := by
      rw [State.carryOut_of_allowed (.inr rfl)]
      have port : s.atCommand.port = .ready := ready
      simp only [carryAllowed, carryResetMport, port]
    refine ⟨_, congrArg Host.Outcome.next (State.runFrame_of_ok up frameBlind_startMportReset carried), ?_⟩
    exact State.performAll_breaks _ [] _ _ rfl
  · refine congrArg Host.Outcome.next (State.runFrame_of_reply up ?_)
    rw [State.carryOut_of_allowed (.inr rfl)]
    unfold carryAllowed carryResetMport
    dsimp only
    split
    · next ready => exact absurd ready busy
    · rfl

/-! ### The groups (R105 to R107) -/

theorem groupOfByte?_ofNat (g : GroupIndex) : groupOfByte? (BitVec.ofNat 8 g.val) = some g := by
  revert g
  decide

theorem groupOfByte?_eq_none {b : Byte} (h : 3 < b.toNat) : groupOfByte? b = none := dif_neg (by omega)

theorem groupOfByte?_of_le {b : Byte} (h : b.toNat ≤ 3) : ∃ g, groupOfByte? b = some g :=
  ⟨⟨b.toNat, by omega⟩, dif_pos (by omega)⟩

theorem bytes16_join (d : BitVec 16) : d.extractLsb' 8 8 ++ d.extractLsb' 0 8 = d := by
  rw [BitVec.extractLsb'_append_extractLsb'_eq_extractLsb' (by rfl)]
  simp

theorem read16_cons_bytes16 (b : Byte) (d : BitVec 16) : read16 (b :: bytes16 d) 1 = d := bytes16_join d

theorem State.openGroup_of_closed {s : State} {g : GroupIndex} (h : s.group g = .closed) (d : BitVec 16)
    (m : Option MatcherIndex) : s.openGroup g d m =
      State.appendEvent { kind := .windowOpened, matcher := m, group := some g, count := some d }
        (s.setGroup g (.opened (s.timeBase + BitVec.ofNat 32 (d.toNat * 1000)))) := by
  simp only [State.openGroup, h]
  rfl

theorem State.openGroup_of_opened {s : State} {g : GroupIndex} {e : Time} (h : s.group g = .opened e) (d : BitVec 16)
    (m : Option MatcherIndex) : s.openGroup g d m =
      State.appendEvent
        { kind := .windowOpened, reason := some .extended, matcher := m, group := some g, count := some d }
        (if (e - s.timeBase).toNat < d.toNat * 1000 then
          s.setGroup g (.opened (s.timeBase + BitVec.ofNat 32 (d.toNat * 1000))) else s) := by
  simp only [State.openGroup, h]
  rfl

theorem State.openGroup_of_frozen {s : State} {g : GroupIndex} (h : s.group g = .frozen) (d : BitVec 16)
    (m : Option MatcherIndex) : s.openGroup g d m =
      State.appendEvent { kind := .windowRefused, matcher := m, group := some g, count := some d } s := by
  simp only [State.openGroup, h]

theorem State.freezeGroup_of_frozen {s : State} {g : GroupIndex} (h : s.group g = .frozen) (m : Option MatcherIndex) :
    s.freezeGroup g m = s := by
  simp only [State.freezeGroup, h]

theorem State.freezeGroup_of_not_frozen {s : State} {g : GroupIndex} (h : s.group g ≠ .frozen) (m : Option MatcherIndex) :
    s.freezeGroup g m =
      State.appendEvent { kind := .groupFrozen, matcher := m, group := some g } (s.setGroup g .frozen) := by
  unfold State.freezeGroup
  split
  · next frozen => exact absurd frozen h
  · rfl
  · rfl

/-- Settles O37: with a good argument the row is an open request of the link. -/
theorem openWindowCommand : Obligations.OpenWindowCommand := by
  intro b d s up unlocked
  have open_ : s.atCommand.lock = false ∨ Command.openWindow.allowedUnderLock = true := .inl unlocked
  refine ⟨fun g byte long => ?_, fun bad => congrArg Host.Outcome.next (State.runFrame_of_reply up ?_),
    fun good zero => congrArg Host.Outcome.next (State.runFrame_of_reply up ?_)⟩
  · have row : exec (.openWindow b d) s = .next ((s.answered .openWindow .done []).openGroup g d none) := by
      refine congrArg Host.Outcome.next (State.runFrame_of_ok up (frameBlind_openGroup g d none) ?_)
      rw [State.carryOut_of_allowed open_]
      have group : groupOfByte? (byteAt (b :: bytes16 d) 0) = some g := byte ▸ groupOfByte?_ofNat g
      simp only [carryAllowed, carryOpenWindow, group, read16_cons_bytes16, if_neg long]
    rw [row]
    refine ⟨fun closed => ?_, fun e opened longer => ?_, fun e opened shorter => ?_, fun frozen => ?_⟩
    · exact congrArg Host.Outcome.next (State.openGroup_of_closed (s := s.answered .openWindow .done []) closed d none)
    · rw [State.openGroup_of_opened (s := s.answered .openWindow .done []) opened d none]
      exact congrArg Host.Outcome.next (congrArg (State.appendEvent _) (if_pos longer))
    · rw [State.openGroup_of_opened (s := s.answered .openWindow .done []) opened d none]
      exact congrArg Host.Outcome.next (congrArg (State.appendEvent _) (if_neg (Nat.not_lt.mpr shorter)))
    · exact congrArg Host.Outcome.next (State.openGroup_of_frozen (s := s.answered .openWindow .done []) frozen d none)
  · rw [State.carryOut_of_allowed open_]
    have group : groupOfByte? (byteAt (b :: bytes16 d) 0) = none := groupOfByte?_eq_none bad
    simp only [carryAllowed, carryOpenWindow, group]
    rfl
  · rw [State.carryOut_of_allowed open_]
    obtain ⟨g, byte⟩ := groupOfByte?_of_le good
    have group : groupOfByte? (byteAt (b :: bytes16 d) 0) = some g := byte
    simp only [carryAllowed, carryOpenWindow, group, read16_cons_bytes16, if_pos zero]
    rfl

theorem State.closeGroup_of_opened {s : State} {g : GroupIndex} {e : Time} (h : s.group g = .opened e) :
    s.closeGroup g =
      State.appendEvent { kind := .windowClosed, reason := some .command, group := some g } (s.setGroup g .closed) := by
  simp only [State.closeGroup, h]

theorem State.closeGroup_of_not_opened {s : State} {g : GroupIndex} (h : s.group g = .closed ∨ s.group g = .frozen) :
    s.closeGroup g = s := by
  obtain h | h := h <;> simp only [State.closeGroup, h]

/-- Settles O38: with a good argument each row is its request of the link. -/
theorem closeAndFreezeCommands : Obligations.CloseAndFreezeCommands := by
  intro b s up
  refine ⟨fun g byte => ?_, fun bad => ?_⟩
  · have group : groupOfByte? (byteAt [b] 0) = some g := byte ▸ groupOfByte?_ofNat g
    have close : exec (.closeWindow b) s = .next ((s.answered .closeWindow .done []).closeGroup g) := by
      refine congrArg Host.Outcome.next (State.runFrame_of_ok up (frameBlind_closeGroup g) ?_)
      rw [State.carryOut_of_allowed (.inr rfl)]
      simp only [carryAllowed, carryCloseWindow, group]
    have freeze : exec (.freezeGroup b) s = .next ((s.answered .freezeGroup .done []).freezeGroup g none) := by
      refine congrArg Host.Outcome.next (State.runFrame_of_ok up (frameBlind_freezeGroup g none) ?_)
      rw [State.carryOut_of_allowed (.inr rfl)]
      simp only [carryAllowed, carryFreezeGroup, group]
    rw [close, freeze]
    exact ⟨fun e opened => congrArg Host.Outcome.next
        (State.closeGroup_of_opened (s := s.answered .closeWindow .done []) opened),
      fun shut => congrArg Host.Outcome.next (State.closeGroup_of_not_opened (s := s.answered .closeWindow .done []) shut),
      fun thawed => congrArg Host.Outcome.next
        (State.freezeGroup_of_not_frozen (s := s.answered .freezeGroup .done []) thawed none),
      fun frozen => congrArg Host.Outcome.next
        (State.freezeGroup_of_frozen (s := s.answered .freezeGroup .done []) frozen none)⟩
  · have group : groupOfByte? (byteAt [b] 0) = none := groupOfByte?_eq_none bad
    refine ⟨congrArg Host.Outcome.next (State.runFrame_of_reply up ?_),
      congrArg Host.Outcome.next (State.runFrame_of_reply up ?_)⟩
    · rw [State.carryOut_of_allowed (.inr rfl)]
      simp only [carryAllowed, carryCloseWindow, group]
      rfl
    · rw [State.carryOut_of_allowed (.inr rfl)]
      simp only [carryAllowed, carryFreezeGroup, group]
      rfl

/-! ### The causes (R150, R152, R168) -/

theorem causes_high_zero_iff (b : Byte) : b.extractLsb' 4 4 = 0 ↔ b.toNat < 16 := by
  rw [← BitVec.toNat_inj, BitVec.extractLsb'_toNat, Nat.shiftRight_eq_div_pow]
  have := b.isLt
  simp only [BitVec.ofNat_eq_ofNat, BitVec.toNat_ofNat]
  omega

theorem CauseSet.decode?_of_lt {b : Byte} (h : b.toNat < 16) :
    CauseSet.decode? b = some ⟨b.getLsbD 0, b.getLsbD 1, b.getLsbD 2, b.getLsbD 3⟩ :=
  if_pos ((causes_high_zero_iff b).mpr h)

theorem CauseSet.decode?_of_ge {b : Byte} (h : 16 ≤ b.toNat) : CauseSet.decode? b = none :=
  if_neg fun zero => absurd ((causes_high_zero_iff b).mp zero) (Nat.not_lt.mpr h)

/-- Settles O44: the rows are the acknowledgement of the named causes and the new mask. -/
theorem causeCommands : Obligations.CauseCommands := by
  intro b s up
  refine ⟨fun small => ?_, fun large => ?_⟩
  · have causes : CauseSet.decode? (byteAt [b] 0) = some ⟨b.getLsbD 0, b.getLsbD 1, b.getLsbD 2, b.getLsbD 3⟩ :=
      CauseSet.decode?_of_lt small
    have ack : exec (.ackAttn b) s = .next ((s.answered .ackAttn .done []).acknowledge
        ⟨b.getLsbD 0, b.getLsbD 1, b.getLsbD 2, b.getLsbD 3⟩) := by
      refine congrArg Host.Outcome.next (State.runFrame_of_ok up (frameBlind_acknowledge _) ?_)
      rw [State.carryOut_of_allowed (.inr rfl)]
      simp only [carryAllowed, carryAckAttn, causes]
    rw [ack, State.acknowledge_eq]
    let u : State := { s.answered .ackAttn .done [] with
      latches := s.acknowledgedLatches ⟨b.getLsbD 0, b.getLsbD 1, b.getLsbD 2, b.getLsbD 3⟩ }
    refine ⟨fun repulse noGap heard => ?_, fun quiet => ?_, ?_⟩
    · refine congrArg (fun gap => Host.Outcome.next { u with gap := gap }) (if_pos ?_)
      exact ⟨repulse, noGap, u.unmaskedLatched_iff.mpr heard⟩
    · refine congrArg (fun gap => Host.Outcome.next { u with gap := gap }) (if_neg ?_)
      rintro ⟨repulse, noGap, heard⟩
      obtain steady | running | unheard := quiet
      · exact nomatch steady.symm.trans repulse
      · exact running noGap
      · exact unheard (u.unmaskedLatched_iff.mp heard)
    · refine congrArg Host.Outcome.next (State.runFrame_of_ok (op := fun s => { s with mask := _ }) up (fun _ _ => rfl) ?_)
      rw [State.carryOut_of_allowed (.inr rfl)]
      simp only [carryAllowed, carrySetAttnMask, causes]
  · have causes : CauseSet.decode? (byteAt [b] 0) = none := CauseSet.decode?_of_ge large
    refine ⟨congrArg Host.Outcome.next (State.runFrame_of_reply up ?_),
      congrArg Host.Outcome.next (State.runFrame_of_reply up ?_)⟩
    · rw [State.carryOut_of_allowed (.inr rfl)]
      simp only [carryAllowed, carryAckAttn, causes]
      rfl
    · rw [State.carryOut_of_allowed (.inr rfl)]
      simp only [carryAllowed, carrySetAttnMask, causes]
      rfl

/-! ### The mode and the lock (R161, R163, R164) -/

/-- Settles O49: the lock check comes first, and then each row sets its own field. -/
theorem modeAndLockCommands : Obligations.ModeAndLockCommands := by
  intro s up
  have open_ : ∀ {c : Command}, s.lock = false → s.atCommand.lock = false ∨ c.allowedUnderLock = true := .inl
  refine ⟨fun unlocked b => ⟨fun zero => ?_, fun one => ?_, fun large => ?_⟩, fun unlocked enforce => ?_,
    fun unlocked bypass => ?_, fun lock i c args frame refused => ?_⟩
  · refine congrArg Host.Outcome.next
      (State.runFrame_of_ok (op := fun s => { s with mode := .bypass }) up (fun _ _ => rfl) ?_)
    rw [State.carryOut_of_allowed (open_ unlocked)]
    exact if_pos zero
  · refine congrArg Host.Outcome.next
      (State.runFrame_of_ok (op := fun s => { s with mode := .enforce }) up (fun _ _ => rfl) ?_)
    rw [State.carryOut_of_allowed (open_ unlocked), one]
    rfl
  · refine congrArg Host.Outcome.next (State.runFrame_of_reply up ?_)
    rw [State.carryOut_of_allowed (open_ unlocked)]
    have notZero : ¬ byteAt [b] 0 = 0 := fun zero => by
      have : b.toNat = 0 := congrArg BitVec.toNat zero
      omega
    have notOne : ¬ byteAt [b] 0 = 1 := fun one => by
      have : b.toNat = 1 := congrArg BitVec.toNat one
      omega
    exact (if_neg notZero).trans (if_neg notOne)
  · refine congrArg Host.Outcome.next
      (State.runFrame_of_ok (op := fun s => { s with lock := true }) up (fun _ _ => rfl) ?_)
    rw [State.carryOut_of_allowed (open_ unlocked)]
    have mode : s.atCommand.mode = .enforce := enforce
    simp only [carryAllowed, carryLockConfig, mode]
  · refine congrArg Host.Outcome.next (State.runFrame_of_reply up ?_)
    rw [State.carryOut_of_allowed (open_ unlocked)]
    have mode : s.atCommand.mode = .bypass := bypass
    simp only [carryAllowed, carryLockConfig, mode]
    rfl
  · have column : c.allowedUnderLock = false ∧ c.replyCount = 0 := by
      simp only [List.mem_cons, List.not_mem_nil, or_false] at refused
      obtain rfl | rfl | rfl | rfl | rfl | rfl | rfl | rfl := refused <;> exact ⟨rfl, rfl⟩
    rw [exec_of_frameOf frame]
    refine congrArg Host.Outcome.next (State.runFrame_of_reply up ?_)
    rw [State.carryOut_of_locked (s := s.atCommand) lock column.1, Carried.refuse, column.2]
    rfl

end Sys2Proof.Machine
end

section
/-! SUPPORT and PROOFS. Frames byte by byte: a row and the bytes of its frame do the same (O47), and what SDO gives while the
reply is clocked out (O48). -/

namespace Sys2Proof.Machine

/-! ### A frame's effect is its command's, whatever its phase was before -/

/-- An effect event that neither reads nor writes the frame but by setting the turnaround. -/
def CarryBlind (carry : State → Carried) : Prop := ∀ f s,
  carry (s.withFrame f) = ⟨(carry s).result, (carry s).reply, (carry s).state.withFrame f⟩

theorem CarryBlind.ok {op : State → State} (blind : FrameBlind op) : CarryBlind (fun s => .ok (op s)) :=
  fun f s => congrArg Carried.ok (blind f s)

theorem CarryBlind.refuse (c : Command) (r : Result) : CarryBlind (Carried.refuse c r) := fun _ _ => rfl

theorem carryBlind_allowed (c : Command) (args : List Byte) : CarryBlind (carryAllowed c args) := by
  intro f s
  cases c with
  | readStatus => rfl
  | fetchTiming => rfl
  | setMode =>
    simp only [carryAllowed, carrySetMode]
    split
    · rfl
    · split <;> rfl
  | lockConfig =>
    simp only [carryAllowed, carryLockConfig]
    have mode : (s.withFrame f).mode = s.mode := rfl
    rw [mode]
    cases s.mode <;> rfl
  | setTiming => simp only [carryAllowed, carrySetTiming]; split <;> rfl
  | loadRegion =>
    simp only [carryAllowed, carryLoadRegion]
    split
    · rfl
    · split <;> rfl
  | fetchRegion => simp only [carryAllowed, carryFetchRegion]; split <;> rfl
  | dropRegion => simp only [carryAllowed, carryDropRegion]; split <;> rfl
  | loadSequence =>
    simp only [carryAllowed, carryLoadSequence]
    split
    · rfl
    · split <;> rfl
  | fetchSequence => simp only [carryAllowed, carryFetchSequence]; split <;> rfl
  | dropSequence => simp only [carryAllowed, carryDropSequence]; split <;> rfl
  | openWindow =>
    simp only [carryAllowed, carryOpenWindow]
    split
    · rfl
    · split
      · rfl
      · exact CarryBlind.ok (frameBlind_openGroup _ _ none) f s
  | closeWindow =>
    simp only [carryAllowed, carryCloseWindow]
    split
    · rfl
    · exact CarryBlind.ok (frameBlind_closeGroup _) f s
  | freezeGroup =>
    simp only [carryAllowed, carryFreezeGroup]
    split
    · rfl
    · exact CarryBlind.ok (frameBlind_freezeGroup _ none) f s
  | takeEvent =>
    simp only [carryAllowed, carryTakeEvent]
    have records : (s.withFrame f).records = s.records := rfl
    rw [records]
    cases s.records <;> rfl
  | ackAttn =>
    simp only [carryAllowed, carryAckAttn]
    split
    · rfl
    · exact CarryBlind.ok (frameBlind_acknowledge _) f s
  | setAttnMask => simp only [carryAllowed, carrySetAttnMask]; split <;> rfl
  | resetMport =>
    simp only [carryAllowed, carryResetMport]
    have port : (s.withFrame f).port = s.port := rfl
    rw [port]
    cases s.port with
    | ready => exact CarryBlind.ok frameBlind_startMportReset f s
    | resetting e n => rfl

/-- The effect event sets the frame itself. -/
theorem State.effectEvent_withFrame (c : Command) (args : List Byte) (f : Frame) (s : State) :
    (s.withFrame f).effectEvent c args = s.effectEvent c args := by
  have blind : CarryBlind (State.carryOut c args) := by
    intro f s
    by_cases allowed : s.lock = false ∨ c.allowedUnderLock = true
    · rw [State.carryOut_of_allowed allowed, State.carryOut_of_allowed (s := s.withFrame f) allowed]
      exact carryBlind_allowed c args f s
    · have lock : s.lock = true := by simpa using fun h => allowed (.inl h)
      have refused : c.allowedUnderLock = false := by simpa using fun h => allowed (.inr h)
      rw [State.carryOut_of_locked lock refused, State.carryOut_of_locked (s := s.withFrame f) lock refused]
      rfl
  unfold State.effectEvent
  dsimp only
  rw [blind f s]
  rfl

/-! ### A row is its frame, byte by byte (R156 to R158) -/

theorem LinkUp.withFrame {s : State} (up : LinkUp s) (f : Frame) : LinkUp (s.withFrame f) := up

/-- The bytes that complete the argument of a command lead to its effect event. -/
theorem runs_arguments {c : Command} (rest done : List Byte) {s : State} (up : LinkUp s) (more : rest ≠ [])
    (count : done.length + rest.length = c.argCount) :
    Runs (rest.map Instr.slinkByteTaken) (s.withFrame (.argument c done)) (s.effectEvent c (done ++ rest)) := by
  induction rest generalizing done with
  | nil => exact absurd rfl more
  | cons b rest ih =>
    have taken : ∀ u, exec (.slinkByteTaken b) (s.withFrame (.argument c done)) = .next u ↔
        (s.withFrame (.argument c done)).takeByte b = u := by
      intro u
      rw [exec_slinkByteTaken_of_linkUp (up.withFrame _)]
      exact ⟨fun h => by cases h; rfl, fun h => by rw [h]⟩
    rw [List.length_cons] at count
    cases rest with
    | nil =>
      refine ⟨_, (taken _).mpr ?_, rfl⟩
      have last : ¬ done.length + 1 < c.argCount := by simp at count; omega
      exact (if_neg last).trans (State.effectEvent_withFrame c (done ++ [b]) _ s)
    | cons b' rest =>
      have next : done.length + 1 < c.argCount := by simp at count; omega
      refine ⟨s.withFrame (.argument c (done ++ [b])), (taken _).mpr (if_pos next), ?_⟩
      have tail := ih (done ++ [b]) (by simp) (by simp at count ⊢; omega)
      rwa [List.append_assoc, List.singleton_append] at tail

theorem State.takeByte_of_knownCode {s : State} (command : s.frame = .command) (c : Command) :
    s.takeByte c.code = if c.argCount = 0 then s.effectEvent c [] else s.withFrame (.argument c []) := by
  simp only [State.takeByte, command, Command.ofCode?_code]
  rfl

theorem LinkUp.atCommand {s : State} (up : LinkUp s) : LinkUp s.atCommand := up

theorem runs_select {s t : State} {rest : List Instr} (up : LinkUp s) (h : Runs rest s.atCommand t) :
    Runs (.frameDeselect :: .selectPeriodBegin :: rest) s t :=
  ⟨s.deselect, rfl, s.atCommand, congrArg Host.Outcome.next (State.newFrame_of_linkUp up), h⟩

/-- The bytes of a whole frame lead to its effect event. -/
theorem runs_frame {c : Command} {args : List Byte} {s : State} (up : LinkUp s) (count : args.length = c.argCount) :
    Runs (.frameDeselect :: .selectPeriodBegin :: (c.code :: args).map Instr.slinkByteTaken) s
      (s.atCommand.effectEvent c args) := by
  refine runs_select up ?_
  rw [List.map_cons]
  refine ⟨_, (exec_slinkByteTaken_of_linkUp up.atCommand _).trans
    (congrArg Host.Outcome.next (State.takeByte_of_knownCode rfl c)), ?_⟩
  by_cases none_ : c.argCount = 0
  · obtain rfl := List.length_eq_zero_iff.mp (count.trans none_)
    exact if_pos none_
  · rw [if_neg none_]
    exact runs_arguments args [] up.atCommand (fun empty => none_ (by rw [← count, empty]; rfl)) (by simpa using count)

theorem length_of_frameOf {i : Instr} {c : Command} {args : List Byte} (h : frameOf i = some (c, args)) :
    args.length = c.argCount := by
  cases i <;> cases h <;> first | rfl | simp [Command.argCount]

/-- Settles O47: a row's frame is selected, commanded and filled byte by byte up to its effect event. -/
theorem rowsAreTheirFrames : Obligations.RowsAreTheirFrames := by
  intro s
  refine ⟨fun i c args frame => ⟨length_of_frameOf frame, fun up => ⟨_, exec_of_frameOf frame s, ?_⟩, fun down => ?_⟩,
    fun code => ⟨fun up => ⟨s.atCommand.takeByte code, ?_, ?_, fun unknown => ?_⟩, fun down => ?_⟩⟩
  · rw [State.runFrame_of_linkUp up]
    exact runs_frame up (length_of_frameOf frame)
  · rw [exec_of_frameOf frame, State.runFrame_of_not_linkUp down]
  · rw [← State.newFrame_of_linkUp up]
    exact congrArg Host.Outcome.next (if_pos ((s.slinkTakes_iff_linkUp).mpr up))
  · exact runs_select up ⟨_, exec_slinkByteTaken_of_linkUp up.atCommand code, rfl⟩
  · rw [State.takeByte_of_unknownCode rfl unknown]
    rfl
  · exact congrArg Host.Outcome.next (if_neg fun takes => down ((s.slinkTakes_iff_linkUp).mp takes))

/-! ### The reply (R157, R158) -/

/-- The phase in which a frame with a reply of `length` bytes stands after `n` bytes from its turnaround. -/
def phaseAfter (length : Nat) : Nat → OutPhase
  | 0 => .turnaround
  | 1 => .result
  | n + 2 => if n < length then .reply n else .trailer

/-- The frame after `n` bytes from the turnaround. -/
def frameAfter (c : Command) (result : Result) (reply : List Byte) (n : Nat) : Frame :=
  .output c (phaseAfter reply.length n) result reply

/-- The state after `n` bytes from one that stands in its turnaround: the last reply byte of a TAKE_EVENT that is DONE has
removed the head (R143). -/
def State.clocked (c : Command) (result : Result) (reply : List Byte) (n : Nat) (s : State) : State :=
  if c = .takeEvent ∧ result = .done ∧ reply ≠ [] ∧ reply.length + 2 ≤ n then
    s.removeHead.withFrame (frameAfter c result reply n)
  else s.withFrame (frameAfter c result reply n)

theorem frameBlind_removeHead : FrameBlind State.removeHead := by
  intro f s
  have lost : (s.withFrame f).lost = s.lost := rfl
  unfold State.removeHead State.reportLosses
  by_cases none_ : s.lost = 0
  · rw [if_pos none_, if_pos (lost.trans none_)]
    rfl
  · rw [if_neg none_, if_neg fun h => none_ (lost.symm.trans h)]
    rw [State.pushRecord_eq, State.pushRecord_eq]
    rfl

section

variable (c : Command) (result : Result) (reply : List Byte) (n : Nat) (s : State)

@[simp] theorem State.clocked_frame : (s.clocked c result reply n).frame = frameAfter c result reply n := by
  unfold State.clocked
  split <;> rfl

theorem LinkUp.clocked (up : LinkUp s) : LinkUp (s.clocked c result reply n) := by
  unfold State.clocked
  split
  · rw [s.removeHead_touches]
    exact up
  · exact up

/-- One more byte. -/
theorem State.takeByte_clocked (b : Byte) :
    (s.clocked c result reply n).takeByte b = s.clocked c result reply (n + 1) := by
  match n with
  | 0 =>
    have stays : ∀ k, k < 2 → s.clocked c result reply k = s.withFrame (frameAfter c result reply k) :=
      fun k hk => if_neg fun ⟨_, _, _, h⟩ => by omega
    rw [stays 0 (by omega), stays 1 (by omega)]
    rfl
  | 1 =>
    have stays : ∀ k, k < 3 → s.clocked c result reply k = s.withFrame (frameAfter c result reply k) :=
      fun k hk => if_neg fun ⟨_, _, some_, h⟩ => some_ (List.length_eq_zero_iff.mp (by omega))
    rw [stays 1 (by omega), stays 2 (by omega)]
    cases reply <;> rfl
  | n + 2 =>
    by_cases inReply : n < reply.length
    · have before : s.clocked c result reply (n + 2) = s.withFrame (.output c (.reply n) result reply) := by
        refine (if_neg fun ⟨_, _, _, h⟩ => by omega).trans (congrArg (State.withFrame · s) ?_)
        exact congrArg (Frame.output c · result reply) (if_pos inReply)
      rw [before]
      by_cases more : n + 1 < reply.length
      · have after : s.clocked c result reply (n + 3) = s.withFrame (.output c (.reply (n + 1)) result reply) := by
          refine (if_neg fun ⟨_, _, _, h⟩ => by omega).trans (congrArg (State.withFrame · s) ?_)
          exact congrArg (Frame.output c · result reply) (if_pos more)
        rw [after]
        exact if_pos more
      · have trailer : frameAfter c result reply (n + 3) = .output c .trailer result reply :=
          congrArg (Frame.output c · result reply) (if_neg more)
        have some_ : reply ≠ [] := fun empty => by simp [empty] at inReply
        refine (if_neg more).trans ?_
        unfold State.finishReply State.clocked
        dsimp only
        by_cases take : c = .takeEvent ∧ result = .done
        · rw [if_pos take, if_pos ⟨take.1, take.2, some_, by omega⟩, trailer, frameBlind_removeHead]
          rfl
        · rw [if_neg take, if_neg fun h => take ⟨h.1, h.2.1⟩, trailer]
          rfl
    · have trailer : ∀ k, frameAfter c result reply (n + k + 2) = .output c .trailer result reply :=
        fun k => congrArg (Frame.output c · result reply) (if_neg (by omega))
      have same : s.clocked c result reply (n + 1 + 2) = s.clocked c result reply (n + 2) := by
        have reached : ∀ k, c = .takeEvent ∧ result = .done ∧ reply ≠ [] ∧ reply.length + 2 ≤ n + k + 2
            ↔ c = .takeEvent ∧ result = .done ∧ reply ≠ [] := by
          intro k
          refine ⟨fun ⟨a, b, d, _⟩ => ⟨a, b, d⟩, fun ⟨a, b, d⟩ => ⟨a, b, d, by omega⟩⟩
        unfold State.clocked
        simp only [reached 1, reached 0, trailer 1, trailer 0]
      rw [same]
      have phase : (s.clocked c result reply (n + 2)).frame = .output c .trailer result reply := by
        rw [State.clocked_frame]
        exact trailer 0
      simp only [State.takeByte, phase]

/-- SDO gives the result code and then the reply bytes. -/
theorem State.clocked_sdo (up : LinkUp s) : (s.clocked c result reply n).sdo =
    some (if n = 0 then 0xFF else if n = 1 then result.code else reply.getD (n - 2) 0) := by
  have power : (s.clocked c result reply n).powerOn = false := (up.clocked c result reply n s).2
  unfold State.sdo
  rw [power, State.clocked_frame]
  match n with
  | 0 => rfl
  | 1 => rfl
  | n + 2 =>
    by_cases inReply : n < reply.length
    · simp [frameAfter, phaseAfter, inReply, byteAt]
    · simp [frameAfter, phaseAfter, inReply]

end

/-- The bytes on SDI have no part in what they clock out. -/
theorem runs_clocked {c : Command} {result : Result} {reply : List Byte} {s t : State} (up : LinkUp s) (sdi : List Byte)
    (n : Nat) (h : Runs (sdi.map Instr.slinkByteTaken) (s.clocked c result reply n) t) :
    t = s.clocked c result reply (n + sdi.length) := by
  induction sdi generalizing n with
  | nil => exact h.symm
  | cons b sdi ih =>
    obtain ⟨u, taken, rest⟩ := h
    rw [exec_slinkByteTaken_of_linkUp (up.clocked c result reply n s), State.takeByte_clocked] at taken
    cases taken
    rw [ih (n + 1) rest, List.length_cons, Nat.add_assoc, Nat.add_comm 1]

theorem State.clocked_zero {s : State} {c : Command} {result : Result} {reply : List Byte}
    (frame : s.frame = .output c .turnaround result reply) : s.clocked c result reply 0 = s := by
  refine (if_neg fun ⟨_, _, _, h⟩ => by omega).trans ?_
  have same : frameAfter c result reply 0 = s.frame := frame.symm
  rw [same]
  rfl

/-- Settles O48: before the effect event SDO gives FFh, and after it the phases go on byte by byte. -/
theorem framePhases : Obligations.FramePhases := by
  refine ⟨rfl, fun s => ⟨fun power => ?_, fun idle => ?_, fun power waiting => ?_⟩, fun s => ⟨fun idle up => ?_,
    fun idle down => ?_, rfl, fun b untaken => ?_, fun busy => ?_, fun c up command some_ => ?_,
    fun c args b up argument more => ?_⟩, fun c result reply sdi s t up frame runs => ?_⟩
  · simp [State.sdo, power]
  · simp [State.sdo, idle]
  · obtain h | h | ⟨c, args, h⟩ := waiting <;> simp [State.sdo, power, h]
  · simp [exec, execSelectPeriodBegin, State.select, idle, s.slinkTakes_iff_linkUp.mpr up]
  · simp [exec, execSelectPeriodBegin, State.select, idle, (s.slinkTakes_iff_linkUp).not.mpr down]
  · by_cases up : LinkUp s
    · rw [exec_slinkByteTaken_of_linkUp up]
      obtain down | ignored | idle := untaken
      · exact absurd up down
      · simp [State.takeByte, ignored]
      · simp [State.takeByte, idle]
    · exact congrArg Host.Outcome.next (if_neg fun takes => up ((s.slinkTakes_iff_linkUp).mp takes))
  · refine congrArg Host.Outcome.next ?_
    unfold State.select
    split
    · next idle => exact absurd idle busy
    · rfl
  · rw [exec_slinkByteTaken_of_linkUp up, State.takeByte_of_knownCode command, if_neg some_]
    rfl
  · rw [exec_slinkByteTaken_of_linkUp up]
    simp [State.takeByte, argument, more]
  · rw [← State.clocked_zero frame] at runs
    obtain rfl := runs_clocked up sdi 0 runs
    rw [Nat.zero_add]
    refine ⟨State.clocked_sdo c result reply sdi.length s up, fun take done taking bytes clocks => ?_, fun other => ?_⟩
    · subst take done
      have some_ : reply ≠ [] := fun empty => by simp [empty] at bytes
      have last : s.clocked .takeEvent .done reply 34 = s.removeHead.withFrame (.output .takeEvent .trailer .done reply) := by
        refine (if_pos ⟨rfl, rfl, some_, by omega⟩).trans (congrArg (State.withFrame · s.removeHead) ?_)
        exact congrArg (Frame.output .takeEvent · .done reply) (if_neg (bytes ▸ Nat.lt_irrefl 32))
      rw [clocks, last]
      simp only [exec, execTakeEventRemoval, frame, taking, if_true]
      rfl
    · rw [State.clocked, if_neg fun h => other h.1]
      rfl

end Sys2Proof.Machine
end

section
/-! SUPPORT and PROOFS. The classifier: lane masks and lookups (O6, O8), what enters the table (O7, O10, O11, O13) and what is
answered at its arrival (O6, O9, O10, O12). -/

namespace Sys2Proof.Machine

/-! ### Lane masks (Table 2-4) -/

theorem legalLanes_iff (lanes : Lanes) : legalLanes lanes = true ↔
    lanes ∈ [0b0001, 0b0010, 0b0100, 0b1000, 0b0011, 0b0110, 0b1100, (0b1111 : Lanes)] := by
  revert lanes
  decide

theorem laneSize_eq_some_iff (lanes : Lanes) (size : AccessSize) : laneSize lanes = some size ↔ lanes ∈ (match size with
    | .byte => [0b0001, 0b0010, 0b0100, 0b1000]
    | .half => [0b0011, 0b0110, 0b1100]
    | .word => [0b1111] : List Lanes) := by
  revert lanes
  cases size <;> decide

theorem getLsbD_laneByte (p : Bool) (j : Nat) :
    (if p = true then (0xFF : Byte) else 0).getLsbD j = (p && decide (j < 8)) := by
  cases p with
  | false => simp
  | true =>
    have ones : (0xFF : Byte) = BitVec.allOnes 8 := rfl
    rw [if_pos rfl, ones, BitVec.getLsbD_allOnes, Bool.true_and]

theorem laneBits_getLsbD (lanes : Lanes) (i : Nat) (h : i < 32) : (laneBits lanes).getLsbD i = lanes.getLsbD (i / 8) := by
  simp only [laneBits, BitVec.getLsbD_append, getLsbD_laneByte]
  obtain lane | lane | lane | lane : i / 8 = 0 ∨ i / 8 = 1 ∨ i / 8 = 2 ∨ i / 8 = 3 := by omega
  · rw [lane, if_pos (by omega), decide_eq_true (by omega), Bool.and_true]
  · rw [lane, if_neg (by omega), if_pos (by omega), decide_eq_true (by omega), Bool.and_true]
  · rw [lane, if_neg (by omega), if_neg (by omega), if_pos (by omega), decide_eq_true (by omega), Bool.and_true]
  · rw [lane, if_neg (by omega), if_neg (by omega), if_neg (by omega), decide_eq_true (by omega), Bool.and_true]

/-! ### Arrivals (R19, R22) -/

theorem arrivalEvent_eq (req : HostRequest) (kind : EventKind) (reason : Option Reason) (region : Option RegionIndex)
    (reference : Option Word) : arrivalEvent req kind reason region reference =
      { kind := kind, reason := reason, region := region, access := some ⟨req.tag, req.kind, req.lanes⟩,
        word := some req.word, attempted := if req.kind = .write then some (req.data &&& laneBits req.lanes) else none,
        reference := reference } := by
  rw [arrivalEvent, attemptedData_eq]

theorem exec_arrival_of_room {s : State} (req : HostRequest) (up : LinkUp s) (room : s.answers.length < 16) :
    exec (.arrival req) s = .next (s.classify req) :=
  congrArg Host.Outcome.next (if_pos (s.hportAccepts_iff.mpr ⟨up, room⟩))

theorem exec_arrival_of_closed {s : State} (req : HostRequest) (h : ¬ (LinkUp s ∧ s.answers.length < 16)) :
    exec (.arrival req) s = .next s :=
  congrArg Host.Outcome.next (if_neg fun accepts => h (s.hportAccepts_iff.mp accepts))

theorem State.tagInUse_iff (s : State) (h : HTag) : s.tagInUse h = true ↔ ∃ t ∈ s.table, t.htag = h := by
  simp [State.tagInUse]

section

variable {req : HostRequest} {s : State}

theorem State.classify_of_malformed (bad : legalLanes req.lanes = false) : s.classify req =
    (s.answer req .malformed 0).appendEvent (arrivalEvent req .malformed none none none) := by
  simp [State.classify, bad]

theorem State.classify_of_clash (good : legalLanes req.lanes = true) (clash : s.tagInUse req.tag = true) :
    s.classify req = (s.answer req .clash 0).appendEvent (arrivalEvent req .tagClash none none none) := by
  simp [State.classify, good, clash]

theorem Accepted.tag_free (accepted : Accepted req s) : s.tagInUse req.tag = false := by
  refine Bool.eq_false_iff.mpr fun clash => ?_
  obtain ⟨t, ht, name⟩ := (s.tagInUse_iff req.tag).mp clash
  exact accepted.tag t ht name

theorem Accepted.exec_unwatched (accepted : Accepted req s) (h : s.mode = .bypass ∨ s.governing req.word = none) :
    exec (.arrival req) s = .next (s.enterUnwatched req) := by
  rw [exec_arrival_of_room req accepted.up accepted.room]
  unfold State.classify
  simp only [accepted.lanes, accepted.tag_free, Bool.not_true, Bool.false_eq_true, if_false]
  obtain bypass | unwatched := h
  · rw [bypass]
  · cases s.mode with
    | bypass => rfl
    | enforce => rw [unwatched]

theorem Accepted.exec_watched (accepted : Accepted req s) (enforce : s.mode = .enforce) {i : RegionIndex} {r : Region}
    (governing : s.governing req.word = some (i, r)) : exec (.arrival req) s = .next (s.classifyWatched req i r) := by
  rw [exec_arrival_of_room req accepted.up accepted.room]
  simp only [State.classify, accepted.lanes, accepted.tag_free, Bool.not_true, Bool.false_eq_true, if_false, enforce,
    governing]

end

/-- Settles O6: the lane mask is checked before the tag, and both before the mode. -/
theorem arrivalsNotClassified : Obligations.ArrivalsNotClassified := by
  refine ⟨legalLanes_iff, laneBits_getLsbD, fun req s => ⟨fun closed => ?_, fun up room bad => ?_,
    fun up room good clash => ?_⟩⟩
  · refine exec_arrival_of_closed req ?_
    rintro ⟨⟨rst, power⟩, room⟩
    obtain h | h | full := closed
    · exact nomatch rst.symm.trans h
    · exact nomatch power.symm.trans h
    · omega
  · rw [exec_arrival_of_room req up room, State.classify_of_malformed bad, arrivalEvent_eq]
    rfl
  · rw [exec_arrival_of_room req up room, State.classify_of_clash good ((s.tagInUse_iff _).mpr clash), arrivalEvent_eq]
    rfl

/-! ### What enters the table (R61) -/

theorem recordData_eq (req : HostRequest) : recordData req = if req.kind = .write then req.data else 0 := by
  unfold recordData
  cases req.kind <;> rfl

theorem State.newTxn_eq_entryOf (s : State) (req : HostRequest) (c : Classification) (v : Bool) (w : Option WordAddr)
    (note : Option Reason) : s.newTxn req c v w note = s.entryOf req c v w note := by
  have held : blockedBy s.heldWords (touchedWords req.word w) = true
      ↔ ∃ x ∈ touchedWords req.word w, x ∈ s.orphanWords ∨ ∃ t ∈ s.table, x ∈ t.touched := by
    simp [blockedBy_iff, State.heldWords]
  unfold State.newTxn State.entryOf
  rw [recordData_eq]
  simp only [held]

theorem State.enter_eq (s : State) (req : HostRequest) (c : Classification) (v : Bool) (w : Option WordAddr)
    (note : Option Reason) : s.enter req c v w note =
      State.arbitrate { s with table := s.table ++ [s.entryOf req c v w note] } := by
  rw [State.enter, State.newTxn_eq_entryOf]

/-- Settles O7: the request enters with no classification. -/
theorem unwatchedRequestEnters : Obligations.UnwatchedRequestEnters := by
  intro req s accepted h
  rw [accepted.exec_unwatched h, State.enterUnwatched, State.enter_eq]

/-! ### The governing entry (R2, R15) -/

theorem Region.contains_iff (r : Region) (w : WordAddr) : r.contains w = true
    ↔ r.base.toNat / 4 ≤ w.toNat ∧ w.toNat < r.base.toNat / 4 + r.count.toNat := by
  simp [Region.contains]

/-- Settles O8: the lookup goes through the table from index 0. -/
theorem governingEntryIsLowest : Obligations.GoverningEntryIsLowest := by
  intro s w i r
  have found : ∀ j q, (match s.region j with
      | some r => if r.contains w then some (j, r) else none
      | none => none) = some q ↔ ∃ r, s.region j = some r ∧ r.contains w = true ∧ (j, r) = q := by
    intro j q
    cases s.region j with
    | none => simp
    | some r => by_cases h : r.contains w <;> simp [h]
  have missed : ∀ j, (match s.region j with
      | some r => if r.contains w then some (j, r) else none
      | none => none) = none ↔ ∀ q, s.region j = some q → ¬ q.contains w = true := by
    intro j
    cases s.region j <;> simp
  have nonempty : r.contains w = true ↔
      r.base.toNat / 4 ≤ w.toNat ∧ w.toNat ≤ r.base.toNat / 4 + r.count.toNat - 1 ∧ r.count ≠ 0 := by
    have zero : r.count = 0 ↔ r.count.toNat = 0 := BitVec.toNat_inj.symm
    rw [r.contains_iff, Ne, zero]
    omega
  unfold State.governing
  rw [← Fin.findSome?_eq_findSome?_finRange, Fin.findSome?_eq_some_iff]
  constructor
  · rintro ⟨j, this, lower⟩
    obtain ⟨q, present, contains, same⟩ := (found j (i, r)).mp this
    obtain ⟨rfl, rfl⟩ := Prod.mk.inj same
    obtain ⟨first, last, some_⟩ := nonempty.mp contains
    exact ⟨present, first, last, some_, fun j hj q hq => (q.contains_iff w).not.mp ((missed j).mp (lower j hj) q hq)⟩
  · rintro ⟨present, first, last, some_, lower⟩
    exact ⟨i, (found i (i, r)).mpr ⟨r, present, nonempty.mpr ⟨first, last, some_⟩, rfl⟩,
      fun j hj => (missed j).mpr fun q hq => (q.contains_iff w).not.mpr (lower j hj q hq)⟩

/-! ### Shape faults (R5, R26) -/

theorem Region.shapeFault_eq (r : Region) {lanes : Lanes} {size : AccessSize} (h : laneSize lanes = some size) :
    r.shapeFault lanes = if r.allows size = false then some .size
      else if r.natural = true ∧ lanes = 0b0110 then some .align else none := by
  simp only [Region.shapeFault, h, naturalLanes]
  cases r.allows size <;> cases r.natural <;> simp

theorem State.refuseAtArrival_breaks (s : State) (req : HostRequest) (status : HostStatus) (e : Event) (i : RegionIndex) :
    BreaksSequences [i] [e] { s with answers := s.answers ++ [⟨req.tag, status, 0⟩] } (s.refuseAtArrival req status e i) :=
  State.performAll_append_breaks (s := s) (u := s.answer req status 0) rfl e [i]

/-- Settles O9: the size is checked first, and a write's fault gives its refusal notice. -/
theorem shapeFaultRefused : Obligations.ShapeFaultRefused := by
  refine ⟨laneSize_eq_some_iff, fun r => ⟨rfl, rfl, rfl⟩, fun r lanes size h => ?_,
    fun req i r size reason s accepted enforce governing lanes fault => ?_⟩
  · rw [r.shapeFault_eq h]
    cases r.allows size <;> simp
  · have shape : r.shapeFault req.lanes = some reason := by
      rw [r.shapeFault_eq lanes]
      obtain ⟨disallowed, rfl⟩ | ⟨allowed, natural, half, rfl⟩ := fault
      · exact if_pos disallowed
      · rw [if_neg (by simp [allowed]), if_pos ⟨natural, half⟩]
    rw [accepted.exec_watched enforce governing]
    simp only [State.classifyWatched, shape, State.shapeFault]
    rw [arrivalEvent_eq]
    refine ⟨fun read => ?_, fun write => ?_⟩
    · rw [read]
      rfl
    · rw [write]
      exact ⟨_, rfl, s.refuseAtArrival_breaks req .refused _ i⟩

/-! ### Watched reads (R6, R27, R28) -/

section

variable {req : HostRequest} {i : RegionIndex} {r : Region} {s : State}

theorem Watched.exec_read (watched : Watched req i r s) (read : req.kind = .read) :
    exec (.arrival req) s = .next (s.classifyRead req i r) := by
  rw [watched.accepted.exec_watched watched.mode watched.governing]
  simp only [State.classifyWatched, watched.shape, read]

theorem Watched.exec_write (watched : Watched req i r s) (write : req.kind = .write) :
    exec (.arrival req) s = .next (s.classifyWrite req i r) := by
  rw [watched.accepted.exec_watched watched.mode watched.governing]
  simp only [State.classifyWatched, watched.shape, write]

end

/-- Settles O10: the entry's read action decides. -/
theorem watchedReadActions : Obligations.WatchedReadActions := by
  intro req i r s watched read
  rw [watched.exec_read read]
  have event : ∀ kind reference, arrivalEvent req kind none (some i) reference =
      { kind := kind, region := some i, access := some ⟨req.tag, .read, req.lanes⟩, word := some req.word,
        reference := reference } := by
    intro kind reference
    rw [arrivalEvent_eq, read]
    rfl
  refine ⟨fun action => ?_, fun action => ?_, fun action => ?_, fun action => ?_⟩
  · simp only [State.classifyRead, action, State.enter_eq]
  · simp only [State.classifyRead, action, State.enter_eq, event]
  · simp only [State.classifyRead, action, event]
    rfl
  · simp only [State.classifyRead, action, event]
    rfl

/-! ### Watched writes (R29 to R34) -/

theorem companion_of_noVerify {snap : Snapshot} {lanes : Lanes} (h : needsVerifyRead snap lanes = false) :
    snap.policy.companion = none := by
  unfold needsVerifyRead at h
  unfold SelectedPolicy.companion
  split
  · next gated => simp [gated] at h
  · rfl

theorem arrivalVerdict_eq_some {snap : Snapshot} {lanes : Lanes} (h : needsVerifyRead snap lanes = false) (data : Word) :
    arrivalVerdict snap lanes data = some (judge snap lanes data 0) := by
  simp [arrivalVerdict, h]

theorem arrivalEvent_of_write {req : HostRequest} (write : req.kind = .write) (kind : EventKind) (reason : Reason)
    (i : RegionIndex) : arrivalEvent req kind (some reason) (some i) none =
      { kind := kind, reason := some reason, region := some i, access := some ⟨req.tag, .write, req.lanes⟩,
        word := some req.word, attempted := some (req.data &&& laneBits req.lanes) } := by
  rw [arrivalEvent_eq, write, if_pos rfl]

/-- Settles O11: the write enters with its snapshot, and a note is appended where the flag or NOTE asks for it. -/
theorem watchedWriteEnters : Obligations.WatchedWriteEnters := by
  intro req i r s watched write
  rw [watched.exec_write write]
  refine ⟨fun verify => ?_, fun arrives pass quiet => ?_, fun arrives pass noted => ?_, fun reason arrives refused note => ?_⟩
  · simp only [State.classifyWrite, arrivalVerdict_eq_none verify, State.enter_eq]
  · have flag : (s.snapshot i r).writeNote = false := quiet
    simp only [State.classifyWrite, arrivalVerdict_eq_some arrives, pass, companion_of_noVerify arrives, State.enter_eq,
      flag, Bool.false_eq_true, if_false]
  · have flag : (s.snapshot i r).writeNote = true := noted
    simp only [State.classifyWrite, arrivalVerdict_eq_some arrives, pass, companion_of_noVerify arrives, State.enter_eq,
      flag, if_true, arrivalEvent_of_write write]
  · have action : (s.snapshot i r).violation = .note := note
    simp only [State.classifyWrite, arrivalVerdict_eq_some arrives, refused, companion_of_noVerify arrives, State.enter_eq,
      action, arrivalEvent_of_write write]

/-- Settles O12: the answer, the event and the refusal notice come together, and nothing enters. -/
theorem writeRefusedAtArrival : Obligations.WriteRefusedAtArrival := by
  intro req i r reason s watched write arrives refused notNote
  have row : exec (.arrival req) s = .next (s.refuseAtArrival req (if r.violation = .quiet then .okay else .refused)
      (arrivalEvent req .writeRefused (some reason) (some i) none) i) := by
    rw [watched.exec_write write]
    simp only [State.classifyWrite, arrivalVerdict_eq_some arrives, refused]
    have action : (s.snapshot i r).violation = r.violation := rfl
    rw [action]
    cases violation : r.violation with
    | quiet => rfl
    | error => rfl
    | note => exact absurd violation notNote
  rw [arrivalEvent_of_write write] at row
  exact ⟨_, row, s.refuseAtArrival_breaks req _ _ i⟩

/-! ### The snapshot (R11, R18, R29, R30) -/

theorem State.selectPolicy_eq (s : State) (r : Region) : s.selectPolicy r = match r.group.map s.group with
    | none => .entry r.primary
    | some .closed => .entry r.primary
    | some (.opened _) => .entry (r.alternate.getD r.primary)
    | some .frozen => .groupFrozen := by
  unfold State.selectPolicy
  cases r.group with
  | none => rfl
  | some g => cases h : s.group g <;> simp [h]

/-- Settles O13: the record that enters carries the snapshot which the classifier took for it. -/
theorem newWriteCarriesItsSnapshot : Obligations.NewWriteCarriesItsSnapshot := by
  intro req s t x snap h hx fresh classification
  obtain ⟨u, moves, same⟩ := exec_moves h
  obtain table : t.table = u.table := congrArg Prod.fst same
  rw [table] at hx
  have new : ∀ y ∈ s.table, ¬ y.SameEntry x := fun y hy e => fresh y hy e.htag
  obtain entries | ⟨req', c, v, w, note, arrival, -, origin, entries⟩ := moves.entries
  · obtain ⟨y, hy, e⟩ := entries x hx
    exact absurd e (new y hy)
  · obtain ⟨y, hy, e⟩ := entries x hx
    obtain hy | hy := List.mem_append.mp hy
    · exact absurd e (new y hy)
    · obtain rfl := List.mem_singleton.mp hy
      obtain ⟨enforce, write, i, r, governing, rfl⟩ := origin snap (e.classification.trans classification)
      cases arrival
      exact ⟨enforce, write, r, governing, rfl, rfl, rfl, rfl, s.selectPolicy_eq r⟩

end Sys2Proof.Machine
end

section
/-! SUPPORT and PROOFS. The elements of a word and BOUNDED (O16), and what a verdict reads (O15). -/

namespace Sys2Proof.Machine

/-! ### The elements of a word (R3, R4) -/

theorem ElementWidth.lanes_pos (w : ElementWidth) : 0 < w.lanes := by cases w <;> decide

theorem ElementWidth.bits_eq (w : ElementWidth) : w.bits = 8 * w.lanes := by cases w <;> rfl

theorem ElementWidth.lane_lt (w : ElementWidth) {k l : Nat} (h : l / w.lanes = k) : l < 4 ↔ k < 32 / w.bits := by
  subst h
  cases w with
  | w8 => exact (Nat.div_one l).symm ▸ Iff.rfl
  | w16 => exact ⟨fun h => by change l / 2 < 2; omega, fun h => by change l / 2 < 2 at h; omega⟩
  | w32 => exact ⟨fun h => by change l / 4 < 1; omega, fun h => by change l / 4 < 1 at h; omega⟩

/-- Element k covers the lanes l with l ÷ size = k. -/
theorem mem_elementLanes (w : ElementWidth) (k l : Nat) : l ∈ elementLanes w k ↔ l / w.lanes = k := by
  have pos := w.lanes_pos
  simp only [elementLanes, List.mem_map, List.mem_range]
  constructor
  · rintro ⟨j, hj, rfl⟩
    rw [Nat.mul_comm, Nat.mul_add_div pos, Nat.div_eq_of_lt hj, Nat.add_zero]
  · rintro rfl
    exact ⟨l % w.lanes, Nat.mod_lt l pos, Nat.div_add_mod' l w.lanes⟩

theorem mem_touchedElements (w : ElementWidth) (lanes : Lanes) (k : Nat) :
    k ∈ touchedElements w lanes ↔ ∃ l, l < 4 ∧ l / w.lanes = k ∧ lanes.getLsbD l = true := by
  simp only [touchedElements, ElementWidth.elements, List.mem_filter, List.mem_range, touches, List.any_eq_true,
    mem_elementLanes]
  constructor
  · rintro ⟨hk, l, lane, written⟩
    exact ⟨l, (w.lane_lt lane).mpr hk, lane, written⟩
  · rintro ⟨l, hl, lane, written⟩
    exact ⟨(w.lane_lt lane).mp hl, l, lane, written⟩

theorem whole_eq_false_iff (w : ElementWidth) (lanes : Lanes) (k : Nat) :
    (!whole w lanes k) = true ↔ ∃ l, l / w.lanes = k ∧ lanes.getLsbD l = false := by
  simp [whole, List.all_eq_false, mem_elementLanes]

theorem touchesPartial_iff (w : ElementWidth) (lanes : Lanes) : touchesPartial w lanes = true ↔
    ∃ l l', l < 4 ∧ l' < 4 ∧ l / w.lanes = l' / w.lanes ∧ lanes.getLsbD l = true ∧ lanes.getLsbD l' = false := by
  simp only [touchesPartial, List.any_eq_true, mem_touchedElements, whole_eq_false_iff]
  constructor
  · rintro ⟨k, ⟨l, hl, lane, written⟩, l', lane', unwritten⟩
    exact ⟨l, l', hl, (w.lane_lt lane').mpr ((w.lane_lt lane).mp hl), lane.trans lane'.symm, written, unwritten⟩
  · rintro ⟨l, l', hl, -, lane, written, unwritten⟩
    exact ⟨l / w.lanes, ⟨l, hl, rfl, written⟩, l', lane.symm, unwritten⟩

/-! ### Their values (R3, R8) -/

/-- A number of n bits under a signedness. -/
theorem readSigned_toNat (signed : Bool) {n : Nat} (pos : 0 < n) (x : BitVec n) :
    readSigned signed n x.toNat = if signed = true then x.toInt else (x.toNat : Int) := by
  have half : 2 ^ n = 2 * 2 ^ (n - 1) := by rw [← Nat.pow_succ', Nat.succ_eq_add_one, Nat.sub_add_cancel pos]
  rw [BitVec.toInt_eq_toNat_cond]
  unfold readSigned
  cases signed with
  | false => simp
  | true =>
    simp only [Bool.true_and, decide_eq_true_eq, if_true]
    split <;> split <;> first | omega | (push_cast; rfl)

theorem elementRaw_eq (w : ElementWidth) (word : Word) (k : Nat) :
    elementRaw w word k = (word.extractLsb' (8 * w.lanes * k) (8 * w.lanes)).toNat := by
  rw [BitVec.extractLsb'_toNat, Nat.shiftRight_eq_div_pow, elementRaw, w.bits_eq]

theorem elementValue_eq (w : ElementWidth) (signed : Bool) (word : Word) (k : Nat) : elementValue w signed word k =
    if signed = true then (word.extractLsb' (8 * w.lanes * k) (8 * w.lanes)).toInt
    else ((word.extractLsb' (8 * w.lanes * k) (8 * w.lanes)).toNat : Int) := by
  rw [elementValue, elementRaw_eq, w.bits_eq]
  exact readSigned_toNat signed (Nat.mul_pos (by decide) w.lanes_pos) _

theorem inElementRange_iff_bounds (w : ElementWidth) (signed : Bool) (v : Int) : inElementRange w signed v = true ↔
    if signed = true then -(2 ^ (8 * w.lanes - 1)) ≤ v ∧ v ≤ 2 ^ (8 * w.lanes - 1) - 1
    else 0 ≤ v ∧ v ≤ 2 ^ (8 * w.lanes) - 1 := by
  rw [inElementRange_iff, elementMin, elementMax, w.bits_eq]
  cases signed <;> rfl

theorem paramValue_eq (signed : Bool) (p : Word) :
    paramValue signed p = if signed = true then p.toInt else (p.toNat : Int) :=
  readSigned_toNat signed (by decide) p

/-! ### Merged words (R41) -/

theorem mergeLanes_getLsbD (lanes : Lanes) (data old : Word) (i : Nat) (h : i < 32) : (mergeLanes lanes data old).getLsbD i =
    if lanes.getLsbD (i / 8) = true then data.getLsbD i else old.getLsbD i := by
  simp only [mergeLanes, BitVec.getLsbD_or, BitVec.getLsbD_and, BitVec.getLsbD_not, laneBits_getLsbD lanes i h, h]
  cases lanes.getLsbD (i / 8) <;> simp

theorem mergeLanes_mask (lanes : Lanes) (data old : Word) :
    mergeLanes lanes (data &&& laneBits lanes) old = mergeLanes lanes data old := by
  rw [mergeLanes, BitVec.and_assoc, BitVec.and_self]
  rfl

/-- A whole element of a merged word is the written data's. -/
theorem elementValue_merge_of_whole {w : ElementWidth} {lanes : Lanes} {k : Nat}
    (written : ∀ l, l / w.lanes = k → lanes.getLsbD l = true) (signed : Bool) (data old old' : Word) :
    elementValue w signed (mergeLanes lanes data old) k = elementValue w signed (mergeLanes lanes data old') k := by
  have same : (mergeLanes lanes data old).extractLsb' (8 * w.lanes * k) (8 * w.lanes)
      = (mergeLanes lanes data old').extractLsb' (8 * w.lanes * k) (8 * w.lanes) := by
    refine BitVec.eq_of_getLsbD_eq fun i hi => ?_
    simp only [BitVec.getLsbD_extractLsb', hi, decide_true, Bool.true_and]
    by_cases inside : 8 * w.lanes * k + i < 32
    · have lane : (8 * w.lanes * k + i) / 8 / w.lanes = k := by
        rw [Nat.div_div_eq_div_mul, Nat.mul_add_div (Nat.mul_pos (by decide) w.lanes_pos), Nat.div_eq_of_lt hi, Nat.add_zero]
      rw [mergeLanes_getLsbD _ _ _ _ inside, mergeLanes_getLsbD _ _ _ _ inside, if_pos (written _ lane),
        if_pos (written _ lane)]
    · rw [BitVec.getLsbD_of_ge _ _ (Nat.not_lt.mp inside), BitVec.getLsbD_of_ge _ _ (Nat.not_lt.mp inside)]
  rw [elementValue_eq, elementValue_eq, same]

/-! ### BOUNDED (R44, R45) -/

section

variable {snap : Snapshot} {lo hi : Word} (policy : snap.policy = .entry (.bounded lo hi))

include policy

theorem judge_bounded (lanes : Lanes) (data v : Word) : judge snap lanes data v =
    verdictOver (touchedElements snap.width lanes)
      (boundedElement snap.width snap.signed lo hi (mergeLanes lanes data v)) := by
  simp only [judge, policy]

theorem needsVerifyRead_bounded (lanes : Lanes) : needsVerifyRead snap lanes = touchesPartial snap.width lanes := by
  simp only [needsVerifyRead, policy]

end

theorem boundedElement_eq (w : ElementWidth) (signed : Bool) (lo hi new : Word) (k : Nat) :
    boundedElement w signed lo hi new k =
      if paramValue signed lo ≤ elementValue w signed new k ∧ elementValue w signed new k ≤ paramValue signed hi then none
      else some .outOfRange := rfl

/-- A check with one reason refuses with it where it does not pass. -/
theorem verdictOver_eq_refuse_iff_not_pass {elements : List Nat} {check : Nat → Option Reason} {reason : Reason}
    (only : ∀ k r, check k = some r → r = reason) :
    verdictOver elements check = .refuse reason ↔ ¬ verdictOver elements check = .pass := by
  unfold verdictOver
  cases found : elements.findSome? check with
  | none => simp
  | some r =>
    obtain ⟨k, -, fails⟩ := List.exists_of_findSome?_eq_some found
    simp [only k r fails]

/-- Settles O16: the elements are gathered lane by lane, and BOUNDED checks each touched one. -/
theorem boundedVerdict : Obligations.BoundedVerdict := by
  refine ⟨fun w lanes => ?_, mergeLanes_getLsbD, paramValue_eq, fun snap lo hi lanes data v policy => ⟨?_, ?_, ?_, ?_⟩⟩
  · have elements := And.intro (mem_touchedElements w lanes) (And.intro (touchedElements_pairwise_lt w lanes)
      (And.intro (touchesPartial_iff w lanes) (And.intro (elementValue_eq w) (inElementRange_iff_bounds w))))
    cases w <;> exact elements
  · rw [judge_bounded policy, verdictOver_eq_pass_iff]
    simp [boundedElement_eq]
  · rw [judge_bounded policy, verdictOver_eq_refuse_iff_not_pass, verdictOver_eq_pass_iff]
    · simp [boundedElement_eq]
    · intro k r fails
      rw [boundedElement_eq] at fails
      split at fails
      · cases fails
      · exact (Option.some.inj fails).symm
  · rw [needsVerifyRead_bounded policy]
  · simp only [SelectedPolicy.companion, policy]

/-! ### What a verdict reads (R36 to R41) -/

theorem judge_mask (snap : Snapshot) (lanes : Lanes) (data v : Word) :
    judge snap lanes (data &&& laneBits lanes) v = judge snap lanes data v := by
  unfold judge
  rw [mergeLanes_mask]

theorem judge_of_arrival {snap : Snapshot} {lanes : Lanes} (h : needsVerifyRead snap lanes = false) (data v v' : Word) :
    judge snap lanes data v = judge snap lanes data v' := by
  unfold needsVerifyRead at h
  split at h
  · next policy => simp only [judge, policy]
  · next policy => simp only [judge, policy]
  · next policy => simp only [judge, policy]
  · next lo hi policy =>
    have same : ∀ k ∈ touchedElements snap.width lanes,
        boundedElement snap.width snap.signed lo hi (mergeLanes lanes data v) k
          = boundedElement snap.width snap.signed lo hi (mergeLanes lanes data v') k := by
      intro k hk
      have whole_ : ∀ l, l / snap.width.lanes = k → lanes.getLsbD l = true := by
        intro l lane
        by_contra unwritten
        obtain ⟨l', hl', lane', written⟩ := (mem_touchedElements snap.width lanes k).mp hk
        have part := (touchesPartial_iff snap.width lanes).mpr ⟨l', l, hl',
          (snap.width.lane_lt lane).mpr ((snap.width.lane_lt lane').mp hl'), lane'.trans lane.symm, written,
          Bool.eq_false_iff.mpr unwritten⟩
        exact nomatch h.symm.trans part
      rw [boundedElement_eq, boundedElement_eq, elementValue_merge_of_whole whole_ snap.signed data v v']
    rw [judge_bounded policy, judge_bounded policy, verdictOver, verdictOver, ← List.head?_filterMap,
      ← List.head?_filterMap, List.filterMap_congr same]
  · cases h
  · cases h

/-- Settles O15: the lanes and the verify word enter a verdict through the merged word alone. -/
theorem verdictInputs : Obligations.VerdictInputs := by
  intro snap lanes data v
  refine ⟨judge_mask snap lanes data v, fun arrives v' => judge_of_arrival arrives data v v', fun verdict policy => ?_⟩
  obtain ⟨policy, rfl⟩ | ⟨policy, rfl⟩ | ⟨policy, rfl⟩ := policy <;>
    simp [judge, arrivalVerdict, needsVerifyRead, SelectedPolicy.companion, policy]

end Sys2Proof.Machine
end

section
/-! SUPPORT and PROOFS. The matchers: what one does with a completion notice (O33), what all of them do (O34), and what each of
their requests does (O35). -/

namespace Sys2Proof.Machine

/-! ### One matcher (R120 to R123) -/

theorem SeqStep.matchesNotice_iff (st : SeqStep) (n : Notice) : st.matchesNotice n = true ↔ st.Matches n := by
  simp only [SeqStep.matchesNotice, SeqStep.Matches, Bool.and_eq_true, beq_iff_eq, List.all_eq_true, List.mem_finRange,
    forall_const, Bool.or_eq_true, and_assoc]
  refine and_congr_right fun _ => and_congr_right fun _ => forall_congr' fun l => ?_
  rw [Ne, imp_iff_not_or, not_not]

theorem Matcher.relevant_iff (m : Matcher) (n : Notice) :
    m.relevant n = true ↔ ∃ x ∈ m.defn.steps, x.kind = n.kind ∧ x.region = n.region := by
  simp [Matcher.relevant, List.any_eq_true]

theorem Matcher.relevantRefusal_iff (m : Matcher) (i : RegionIndex) :
    m.relevantRefusal i = true ↔ ∃ x ∈ m.defn.steps, x.region = i := by
  simp [Matcher.relevantRefusal, List.any_eq_true]

section

variable {m : Matcher} {n : Notice} {now : Time} {st : SeqStep}

theorem Matcher.expects_iff (expected : m.defn.steps[m.progress]? = some st) : m.expects n = true ↔ st.Matches n := by
  rw [← st.matchesNotice_iff, Matcher.expects, expected]
  rfl

/-- A step that matches makes the notice relevant. -/
theorem Matcher.relevant_of_matches (expected : m.defn.steps[m.progress]? = some st) (h : st.Matches n) :
    m.relevant n = true :=
  (m.relevant_iff n).mpr ⟨st, List.mem_of_getElem? expected, h.1, h.2.1⟩

theorem Matcher.takeCompletion_of_irrelevant (h : ¬ m.relevant n = true) : m.takeCompletion n now = (m, none, false) := by
  simp [Matcher.takeCompletion, h]

theorem Matcher.takeCompletion_of_expected (expected : m.defn.steps[m.progress]? = some st) (h : st.Matches n) :
    m.takeCompletion n now = ((m.advance now).1, none, (m.advance now).2) := by
  simp [Matcher.takeCompletion, Matcher.relevant_of_matches expected h, (Matcher.expects_iff expected).mpr h]

/-- Another notice than the expected one finds the matcher at its first step, or breaks its sequence. -/
theorem Matcher.takeCompletion_of_other (relevant : m.relevant n = true) (expected : m.defn.steps[m.progress]? = some st)
    (h : ¬ st.Matches n) : m.takeCompletion n now =
      if m.progress = 0 then (m, none, false)
      else if m.restart.expects n then ((m.restart.advance now).1, some m.progress, (m.restart.advance now).2)
      else (m.restart, some m.progress, false) := by
  have unexpected : m.expects n = false := Bool.eq_false_iff.mpr ((Matcher.expects_iff expected).not.mpr h)
  by_cases start : m.progress = 0
  · simp [Matcher.takeCompletion, relevant, unexpected, start]
  · by_cases first : m.restart.expects n = true <;> simp [Matcher.takeCompletion, relevant, unexpected, start, first]

theorem Matcher.advance_of_more (h : m.progress + 1 < m.defn.steps.length) : m.advance now =
    ({ m with progress := m.progress + 1, deadline := some (now + BitVec.ofNat 32 (m.defn.gap.toNat * 1000)) }, false) :=
  if_pos h

theorem Matcher.advance_of_last (h : m.progress + 1 = m.defn.steps.length) : m.advance now = (m.restart, true) :=
  if_neg (by omega)

end

/-- Settles O33: the expected step comes first, and a broken sequence is tested against its first step. -/
theorem matcherTakesCompletion : Obligations.MatcherTakesCompletion := by
  refine ⟨Matcher.relevantRefusal_iff, fun m n now first st sound start expected => ?_⟩
  have restarted : m.restart.defn.steps[m.restart.progress]? = some first := start
  refine ⟨fun other => ?_, fun hit more => ?_, fun hit last => ?_, fun relevant miss zero => ?_,
    fun relevant miss some_ hit => ?_, fun relevant miss some_ missFirst => ?_⟩
  · exact Matcher.takeCompletion_of_irrelevant ((m.relevant_iff n).not.mpr other)
  · rw [Matcher.takeCompletion_of_expected expected hit, Matcher.advance_of_more more]
  · rw [Matcher.takeCompletion_of_expected expected hit, Matcher.advance_of_last last]
    rfl
  · rw [Matcher.takeCompletion_of_other ((m.relevant_iff n).mpr relevant) expected miss, if_pos zero]
  · have long : m.restart.progress + 1 < m.restart.defn.steps.length := by
      have below := sound.progress
      change 0 + 1 < m.defn.steps.length
      omega
    rw [Matcher.takeCompletion_of_other ((m.relevant_iff n).mpr relevant) expected miss, if_neg some_,
      if_pos ((Matcher.expects_iff restarted).mpr hit), Matcher.advance_of_more long]
    rfl
  · rw [Matcher.takeCompletion_of_other ((m.relevant_iff n).mpr relevant) expected miss, if_neg some_,
      if_neg ((Matcher.expects_iff restarted).not.mpr missFirst)]
    rfl

/-- A sound matcher completes from the step it expects alone. -/
theorem Matcher.takeCompletion_of_completed {m : Matcher} {n : Notice} {now : Time} (sound : m.Sound)
    (completed : (m.takeCompletion n now).2.2 = true) : m.takeCompletion n now = (m.restart, none, true) := by
  obtain ⟨st, expected⟩ : ∃ st, m.defn.steps[m.progress]? = some st := ⟨_, List.getElem?_eq_getElem sound.progress⟩
  have below := sound.progress
  by_cases hit : st.Matches n
  · rw [Matcher.takeCompletion_of_expected expected hit] at completed ⊢
    by_cases more : m.progress + 1 < m.defn.steps.length
    · rw [Matcher.advance_of_more more] at completed
      cases completed
    · rw [Matcher.advance_of_last (by omega)]
  · by_cases relevant : m.relevant n = true
    · rw [Matcher.takeCompletion_of_other relevant expected hit] at completed
      split at completed
      · cases completed
      · next some_ =>
        split at completed
        · have long : m.restart.progress + 1 < m.restart.defn.steps.length := by
            change 0 + 1 < m.defn.steps.length
            omega
          rw [Matcher.advance_of_more long] at completed
          cases completed
        · cases completed
    · rw [Matcher.takeCompletion_of_irrelevant relevant] at completed
      cases completed

/-! ### All matchers (R119, R126 to R128) -/

/-- A request that comes with a completion: any but a refusal notice. -/
def Request.ofCompletion : Request → Prop
  | .append _ => True
  | .openGroup _ _ _ => True
  | .freezeGroup _ _ => True
  | .startPulse => True
  | .refusalNotice _ _ => False

/-- The matchers, SEQUENCE and MEMORY are as before. -/
def KeepsMatchers (u v : State) : Prop :=
  v.matchers = u.matchers ∧ v.latches.sequence = u.latches.sequence ∧ v.latches.memory = u.latches.memory

theorem KeepsMatchers.trans {u v w : State} (h : KeepsMatchers u v) (k : KeepsMatchers v w) : KeepsMatchers u w :=
  ⟨k.1.trans h.1, k.2.1.trans h.2.1, k.2.2.trans h.2.2⟩

theorem State.appendEvent_keepsMatchers (e : Event) (s : State) : KeepsMatchers s (s.appendEvent e) := by
  refine ⟨s.appendEvent_matchers e, ?_⟩
  unfold State.appendEvent
  split
  · exact ⟨rfl, rfl⟩
  · split
    · rw [State.pushRecord_eq]
      dsimp only
      split <;> exact ⟨rfl, rfl⟩
    · exact ⟨rfl, rfl⟩

theorem State.perform_keepsMatchers {r : Request} (h : r.ofCompletion) (s : State) : KeepsMatchers s (s.perform r) := by
  cases r with
  | append e => exact s.appendEvent_keepsMatchers e
  | startPulse => exact ⟨rfl, rfl, rfl⟩
  | refusalNotice i region => exact h.elim
  | openGroup g d i =>
    cases state : s.group g with
    | closed =>
      rw [State.perform, State.openGroup_of_closed state]
      exact State.appendEvent_keepsMatchers _ (s.setGroup g _)
    | opened e =>
      rw [State.perform, State.openGroup_of_opened state]
      refine KeepsMatchers.trans ?_ (State.appendEvent_keepsMatchers _ _)
      split <;> exact ⟨rfl, rfl, rfl⟩
    | frozen =>
      rw [State.perform, State.openGroup_of_frozen state]
      exact s.appendEvent_keepsMatchers _
  | freezeGroup g i =>
    by_cases state : s.group g = .frozen
    · rw [State.perform, State.freezeGroup_of_frozen state]
      exact ⟨rfl, rfl, rfl⟩
    · rw [State.perform, State.freezeGroup_of_not_frozen state]
      exact State.appendEvent_keepsMatchers _ (s.setGroup g .frozen)

theorem performList_keepsMatchers {rs : List Request} (h : ∀ r ∈ rs, r.ofCompletion) (s : State) :
    KeepsMatchers s (rs.foldl State.perform s) := by
  induction rs generalizing s with
  | nil => exact ⟨rfl, rfl, rfl⟩
  | cons r rs ih =>
    rw [List.foldl_cons]
    exact (s.perform_keepsMatchers (h r (by simp))).trans (ih (fun x hx => h x (by simp [hx])) _)

/-- The requests that a matcher's index makes at a completion notice. -/
def State.requestsAt (s : State) (n : Notice) (i : MatcherIndex) : List Request :=
  (s.matcher i).elim [] (fun m =>
    completionRequests i m n (m.takeCompletion n s.timeBase).2.1 (m.takeCompletion n s.timeBase).2.2)

theorem completionRequests_ofCompletion (i : MatcherIndex) (m : Matcher) (n : Notice) (lapsed : Option Nat)
    (completed : Bool) : ∀ r ∈ completionRequests i m n lapsed completed, r.ofCompletion := by
  intro r hr
  obtain hr | hr := List.mem_append.mp hr
  · cases lapsed with
    | none => cases hr
    | some p =>
      obtain rfl := List.mem_singleton.mp hr
      trivial
  · cases completed with
    | false => cases hr
    | true =>
      obtain rfl | hr := List.mem_cons.mp hr
      · trivial
      · unfold SeqAction.requests at hr
        split at hr
        · cases hr
        · obtain rfl := List.mem_singleton.mp hr
          trivial
        · obtain rfl := List.mem_singleton.mp hr
          trivial
        · obtain rfl := List.mem_singleton.mp hr
          trivial

/-- Some matcher completes at the notice. -/
def State.Completes (s : State) (n : Notice) : Prop :=
  ∃ i m, s.matcher i = some m ∧ (m.takeCompletion n s.timeBase).2.2 = true

theorem State.reactions_any_iff (s : State) (n : Notice) :
    (s.reactions n).any (fun r => r.2.2.2) = true ↔ s.Completes n := by
  simp only [State.reactions, List.any_eq_true, List.mem_filterMap, List.mem_finRange, true_and, Option.map_eq_some_iff,
    State.Completes]
  constructor
  · rintro ⟨r, ⟨i, m, defined, rfl⟩, completed⟩
    exact ⟨i, m, defined, completed⟩
  · rintro ⟨i, m, defined, completed⟩
    exact ⟨_, ⟨i, m, defined, rfl⟩, completed⟩

/-- A matcher's requests may be read off the matcher before it moves: its definition stays. -/
theorem State.requestsAt_of_defined {s : State} {n : Notice} {i : MatcherIndex} {m : Matcher} (defined : s.matcher i = some m) :
    s.requestsAt n i = completionRequests i (m.takeCompletion n s.timeBase).1 n
      (m.takeCompletion n s.timeBase).2.1 (m.takeCompletion n s.timeBase).2.2 := by
  have defn := (m.takeCompletion_movesTo n s.timeBase).1
  unfold State.requestsAt completionRequests
  rw [defined, Option.elim_some, defn]

theorem State.requestsAt_of_undefined {s : State} {n : Notice} {i : MatcherIndex} (undefined : s.matcher i = none) :
    s.requestsAt n i = [] := by
  rw [State.requestsAt, undefined, Option.elim_none]

theorem State.requestsAt_ofCompletion (s : State) (n : Notice) (i : MatcherIndex) :
    ∀ r ∈ s.requestsAt n i, r.ofCompletion := by
  unfold State.requestsAt
  cases s.matcher i with
  | none => exact fun r hr => absurd hr List.not_mem_nil
  | some m => exact completionRequests_ofCompletion i m n _ _

/-- The requests of the defined matchers of a list of indexes are those of the indexes, but for empty lists. -/
theorem State.reactionRequests_perIndex (s : State) (n : Notice) (l : List MatcherIndex) :
    let own := (l.filterMap (fun i => (s.matcher i).map (fun m => (i, m.takeCompletion n s.timeBase)))).map
      (fun r => completionRequests r.1 r.2.1 n r.2.2.1 r.2.2.2)
    own.flatten = (l.map (s.requestsAt n)).flatten ∧ ∀ i ∈ l, s.requestsAt n i = [] ∨ s.requestsAt n i ∈ own := by
  induction l with
  | nil => exact ⟨rfl, fun i hi => absurd hi List.not_mem_nil⟩
  | cons i l ih =>
    obtain ⟨flat, member⟩ := ih
    cases defined : s.matcher i with
    | none =>
      have empty := State.requestsAt_of_undefined (n := n) defined
      rw [List.filterMap_cons_none (by rw [defined]; rfl)]
      refine ⟨by rw [flat, List.map_cons, List.flatten_cons, empty, List.nil_append], fun j hj => ?_⟩
      obtain rfl | hj := List.mem_cons.mp hj
      · exact .inl empty
      · exact member j hj
    | some m =>
      have own := State.requestsAt_of_defined (n := n) defined
      rw [List.filterMap_cons_some (b := (i, m.takeCompletion n s.timeBase)) (by rw [defined]; rfl), List.map_cons]
      refine ⟨by rw [List.flatten_cons, flat, List.map_cons, List.flatten_cons, own], fun j hj => ?_⟩
      obtain rfl | hj := List.mem_cons.mp hj
      · exact .inr (own ▸ List.mem_cons_self)
      · exact (member j hj).imp_right (List.mem_cons_of_mem _)

/-- The requests of the four matchers, taken in an order, each matcher's own in its order. -/
theorem State.completion_takenInOrder {s : State} {n : Notice} {order : List Request}
    (h : TakenInOrder ((s.reactions n).map (fun r => completionRequests r.1 r.2.1 n r.2.2.1 r.2.2.2)) order) :
    TakenInOrder ((List.finRange 4).map (s.requestsAt n)) order := by
  obtain ⟨flat, member⟩ := s.reactionRequests_perIndex n (List.finRange 4)
  obtain ⟨perm, sublist⟩ := h
  refine ⟨flat ▸ perm, fun own hown => ?_⟩
  obtain ⟨i, hi, rfl⟩ := List.mem_map.mp hown
  obtain empty | listed := member i hi
  · rw [empty]
    exact List.nil_sublist _
  · exact sublist _ listed

/-- A completion notice as one run of requests from the state in which the matchers have moved. -/
theorem State.giveCompletion_runs (s : State) (n : Notice) : ∃ (order : List Request) (k : Nat) (sequence : Bool),
    TakenInOrder ((List.finRange 4).map (s.requestsAt n)) order
    ∧ (sequence = true ↔ s.latches.sequence = true ∨ s.Completes n)
    ∧ s.giveCompletion n = order.foldl State.perform
        { s with matchers := s.movedMatchers n, latches := { s.latches with sequence := sequence }, choices := k } := by
  obtain ⟨order, k, taken, ran⟩ := State.performAll_takenInOrder
    ((s.reactions n).map (fun r => completionRequests r.1 r.2.1 n r.2.2.1 r.2.2.2))
    (if (s.reactions n).any (fun r => r.2.2.2) then State.latch .sequence { s with matchers := s.movedMatchers n }
      else { s with matchers := s.movedMatchers n })
  rw [← s.giveCompletion_eq n] at ran
  have iff := s.reactions_any_iff n
  cases completes : (s.reactions n).any (fun r => r.2.2.2) with
  | true =>
    exact ⟨order, k, true, State.completion_takenInOrder taken, iff_of_true rfl (.inr (iff.mp completes)),
      by rw [ran, completes]; rfl⟩
  | false =>
    have still : ¬ s.Completes n := fun h => absurd (iff.mpr h) (by simp [completes])
    exact ⟨order, k, s.latches.sequence, State.completion_takenInOrder taken, (or_iff_left still).symm,
      by rw [ran, completes]; rfl⟩

/-- Settles O34: the requests of a completion leave the matchers, SEQUENCE and MEMORY as the moves and the latch put them. -/
theorem completionMovesEveryMatcher : Obligations.CompletionMovesEveryMatcher := by
  intro n s
  obtain ⟨order, k, sequence, taken, latched, ran⟩ := s.giveCompletion_runs n
  have kept : KeepsMatchers
      { s with matchers := s.movedMatchers n, latches := { s.latches with sequence := sequence }, choices := k }
      (s.giveCompletion n) := by
    rw [ran]
    refine performList_keepsMatchers (fun r hr => ?_) _
    obtain ⟨own, hown, hr⟩ := List.mem_flatten.mp (taken.1.mem_iff.mp hr)
    obtain ⟨i, -, rfl⟩ := List.mem_map.mp hown
    exact s.requestsAt_ofCompletion n i r hr
  obtain ⟨matchers, keptSequence, memory⟩ := kept
  refine ⟨fun i => ?_, ?_, memory, ?_, order, k, sequence, ?_, latched, ran⟩
  · rw [State.matcher, matchers]
    exact Vector.getElem_map ..
  · rw [keptSequence]
    exact latched
  · obtain ⟨u, h⟩ := s.giveCompletion_touches n
    rw [h]
    rfl
  · refine cast (congrArg (fun f => TakenInOrder ((List.finRange 4).map f) order) (funext fun i => ?_)) taken
    cases defined : s.matcher i with
    | none => exact State.requestsAt_of_undefined defined
    | some m =>
      rw [State.requestsAt, defined, Option.elim_some]
      unfold completionRequests SeqAction.requests
      refine congrArg₂ (· ++ ·) ?_ ?_
      · cases (m.takeCompletion n s.timeBase).2.1 <;> rfl
      · cases m.defn.action <;> rfl

/-! ### One completion and its action (R126, R127, R130) -/

theorem filterMap_of_sole {α β : Type} {f : α → Option β} {l : List α} {a : α} {b : β} (nodup : l.Nodup) (mem : a ∈ l)
    (here : f a = some b) (others : ∀ x, x ≠ a → f x = none) : l.filterMap f = [b] := by
  obtain ⟨before, after, rfl⟩ := List.append_of_mem mem
  obtain ⟨-, tail, apart⟩ := List.nodup_append.mp nodup
  have none_before : before.filterMap f = [] :=
    List.filterMap_eq_nil_iff.mpr fun x hx => others x (apart x hx a List.mem_cons_self)
  have none_after : after.filterMap f = [] :=
    List.filterMap_eq_nil_iff.mpr fun x hx => others x (fun e => (List.nodup_cons.mp tail).1 (e ▸ hx))
  rw [List.filterMap_append, none_before, List.filterMap_cons_some here, none_after, List.nil_append]

/-- A completion notice where one matcher alone is defined and completes. -/
theorem State.giveCompletion_of_sole {s : State} {n : Notice} {i : MatcherIndex} {m : Matcher} (defined : s.matcher i = some m)
    (sole : ∀ j, j ≠ i → s.matcher j = none) (sound : m.Sound) (completed : (m.takeCompletion n s.timeBase).2.2 = true) :
    s.giveCompletion n = (m.defn.action.requests i).foldl State.perform
      (State.appendEvent (doneEvent i n.region m.defn.steps.length)
        (State.latch .sequence (s.setMatcher i (some m.restart)))) := by
  have reactions : s.reactions n = [(i, m.restart, none, true)] := by
    refine filterMap_of_sole (List.nodup_finRange 4) (List.mem_finRange i) ?_ fun j hj => ?_
    · rw [defined, Option.map_some, Matcher.takeCompletion_of_completed sound completed]
    · rw [sole j hj, Option.map_none]
  unfold State.giveCompletion
  rw [reactions]
  simp only [List.foldl_cons, List.foldl_nil, List.any_cons, List.any_nil, Bool.or_false, List.map_cons, List.map_nil, if_true]
  unfold State.performAll
  rw [interleave_one]
  rfl

theorem State.startPulse_of {u : State} {now : Time} {timing : Timing} (base : u.timeBase = now) (set : u.timing = timing) :
    u.startPulse = { u with pulse := some (now + BitVec.ofNat 32 (timing.pulseLength.toNat * 1000)) } := by
  subst base set
  rfl

/-- Settles O35: the requests by the state of the group, and the sole matcher's requests one after another. -/
theorem completionPerformsTheAction : Obligations.CompletionPerformsTheAction := by
  refine ⟨fun s i g d => ⟨fun e => rfl, rfl, rfl, rfl, fun closed => ⟨State.openGroup_of_closed closed d _,
    State.freezeGroup_of_not_frozen (by rw [closed]; exact nofun) _⟩, fun e opened => ⟨State.openGroup_of_opened opened d _,
    State.freezeGroup_of_not_frozen (by rw [opened]; exact nofun) _⟩, fun frozen => ⟨State.openGroup_of_frozen frozen d _,
    State.freezeGroup_of_frozen frozen _⟩⟩, fun n i m s defined sole sound completed => ?_⟩
  have completion := State.giveCompletion_of_sole defined sole sound completed
  refine ⟨fun action => ?_, fun action => ?_, fun g d action => ?_, fun g action => ?_⟩ <;> rw [completion, action]
  · rfl
  · exact State.startPulse_of (State.appendEvent_timeBase _ _) (State.appendEvent_timing _ _)
  · rfl
  · rfl

end Sys2Proof.Machine
end

section
/-! SUPPORT. The bytes of an image: what a field reads of the bytes that were written, and what is written of the bytes that
were read (10.6). -/

namespace Sys2Proof.Machine

/-! ### Numbers of appended bit vectors -/

theorem toNat_append_eq {m n : Nat} (x : BitVec m) (y : BitVec n) : (x ++ y).toNat = x.toNat * 2 ^ n + y.toNat := by
  rw [BitVec.toNat_append, ← Nat.shiftLeft_add_eq_or_of_lt y.isLt, Nat.shiftLeft_eq]

theorem append_eq_zero_iff {m n : Nat} (x : BitVec m) (y : BitVec n) : x ++ y = 0 ↔ x = 0 ∧ y = 0 := by
  have pos : 0 < 2 ^ n := by positivity
  simp only [← BitVec.toNat_inj, toNat_append_eq, BitVec.ofNat_eq_ofNat, BitVec.toNat_ofNat, Nat.zero_mod]
  rw [Nat.add_eq_zero_iff, Nat.mul_eq_zero, or_iff_left (by omega)]

/-! ### The bytes of a field -/

theorem bytes24_join (d : BitVec 24) : d.extractLsb' 16 8 ++ d.extractLsb' 8 8 ++ d.extractLsb' 0 8 = d := by
  rw [BitVec.extractLsb'_append_extractLsb'_eq_extractLsb' (by rfl),
    BitVec.extractLsb'_append_extractLsb'_eq_extractLsb' (by rfl)]
  simp

theorem bytes32_join (d : BitVec 32) :
    d.extractLsb' 24 8 ++ d.extractLsb' 16 8 ++ d.extractLsb' 8 8 ++ d.extractLsb' 0 8 = d := by
  rw [BitVec.extractLsb'_append_extractLsb'_eq_extractLsb' (by rfl),
    BitVec.extractLsb'_append_extractLsb'_eq_extractLsb' (by rfl),
    BitVec.extractLsb'_append_extractLsb'_eq_extractLsb' (by rfl)]
  simp

theorem bytes16_append (a b : Byte) : bytes16 (b ++ a) = [a, b] :=
  congrArg₂ (fun x y => [x, y]) BitVec.extractLsb'_append_eq_right BitVec.extractLsb'_append_eq_left

theorem bytes24_append (a b c : Byte) : bytes24 (c ++ b ++ a) = a :: bytes16 (c ++ b) :=
  congr (congrArg₂ (fun x y z => [x, y, z]) BitVec.extractLsb'_append_eq_right
    (BitVec.extractLsb'_append_eq_of_le (le_refl 8))) (BitVec.extractLsb'_append_eq_of_le (by decide))

theorem bytes32_append (a b c d : Byte) : bytes32 (d ++ c ++ b ++ a) = a :: bytes24 (d ++ c ++ b) :=
  congr (congr (congrArg₂ (fun w x y z => [w, x, y, z]) BitVec.extractLsb'_append_eq_right
    (BitVec.extractLsb'_append_eq_of_le (le_refl 8))) (BitVec.extractLsb'_append_eq_of_le (by decide)))
    (BitVec.extractLsb'_append_eq_of_le (by decide))

theorem bytes16_read16 (l : List Byte) (i : Nat) : bytes16 (read16 l i) = [byteAt l i, byteAt l (i + 1)] :=
  bytes16_append _ _

theorem bytes24_read24 (l : List Byte) (i : Nat) :
    bytes24 (read24 l i) = [byteAt l i, byteAt l (i + 1), byteAt l (i + 2)] :=
  (bytes24_append _ _ _).trans (congrArg _ (bytes16_append _ _))

theorem bytes32_read32 (l : List Byte) (i : Nat) :
    bytes32 (read32 l i) = [byteAt l i, byteAt l (i + 1), byteAt l (i + 2), byteAt l (i + 3)] :=
  (bytes32_append _ _ _ _).trans (congrArg _ ((bytes24_append _ _ _).trans (congrArg _ (bytes16_append _ _))))

theorem read16_eq_zero_iff (l : List Byte) (i : Nat) : read16 l i = 0 ↔ byteAt l i = 0 ∧ byteAt l (i + 1) = 0 := by
  rw [read16, append_eq_zero_iff, and_comm]

/-! ### The numbers of fields (10.6) -/

theorem byteAt_of_lt {l : List Byte} {k : Nat} (h : k < l.length) : byteAt l k = l[k] := List.getD_eq_getElem l 0 h

theorem byteAt_of_le {l : List Byte} {k : Nat} (h : l.length ≤ k) : byteAt l k = 0 := List.getD_eq_default l 0 h

theorem fieldAt_succ (img : List Byte) (k n : Nat) :
    fieldAt img k (n + 1) = (byteAt img k).toNat + 256 * fieldAt img (k + 1) n := by
  by_cases inside : k < img.length
  · rw [fieldAt, List.drop_eq_getElem_cons inside, List.take_succ_cons, List.foldr_cons, byteAt_of_lt inside]
    rfl
  · have here : img.length ≤ k := by omega
    rw [fieldAt, List.drop_of_length_le here, fieldAt, List.drop_of_length_le (Nat.le_succ_of_le here), byteAt_of_le here,
      List.take_nil, List.take_nil]
    rfl

theorem fieldAt_zero (img : List Byte) (k : Nat) : fieldAt img k 0 = 0 := by
  rw [fieldAt, List.take_zero]
  rfl

theorem fieldAt_one (img : List Byte) (k : Nat) : fieldAt img k 1 = (byteAt img k).toNat := by
  rw [fieldAt_succ, fieldAt_zero, Nat.mul_zero, Nat.add_zero]

theorem fieldAt_two (img : List Byte) (k : Nat) : fieldAt img k 2 = (read16 img k).toNat := by
  rw [fieldAt_succ, fieldAt_one, read16, toNat_append_eq]
  omega

theorem fieldAt_three (img : List Byte) (k : Nat) : fieldAt img k 3 = (read24 img k).toNat := by
  rw [fieldAt_succ, fieldAt_two, read16, toNat_append_eq, read24, toNat_append_eq, toNat_append_eq,
    Nat.add_assoc k 1 1]
  omega

theorem fieldAt_four (img : List Byte) (k : Nat) : fieldAt img k 4 = (read32 img k).toNat := by
  rw [fieldAt_succ, fieldAt_three, read24, toNat_append_eq, toNat_append_eq, read32, toNat_append_eq, toNat_append_eq,
    toNat_append_eq, Nat.add_assoc k 1 1, Nat.add_assoc k 1 2]
  omega

theorem bitsAt_eq (img : List Byte) (k low n : Nat) : bitsAt img k low n = ((byteAt img k).extractLsb' low n).toNat := by
  rw [bitsAt, fieldAt_one, BitVec.extractLsb'_toNat, Nat.shiftRight_eq_div_pow]

theorem bitsAt_one (img : List Byte) (k low : Nat) : bitsAt img k low 1 = ((byteAt img k).getLsbD low).toNat := by
  rw [bitsAt, fieldAt_one, BitVec.getLsbD, Nat.testBit_eq_decide_div_mod_eq, pow_one]
  obtain zero | one := Nat.mod_two_eq_zero_or_one ((byteAt img k).toNat / 2 ^ low)
  · rw [zero]
    rfl
  · rw [one]
    rfl

/-! ### The bytes of a list -/

/-- A list is its bytes, one after another. -/
theorem eq_map_byteAt (l : List Byte) : l = (List.range l.length).map (byteAt l) :=
  List.ext_getElem (by simp) fun k here _ => by simp [byteAt_of_lt here]

theorem byteAt_toList {n : Nat} (v : Vector Byte n) {k : Nat} (h : k < n) : byteAt v.toList k = v[k] := by
  rw [byteAt_of_lt (by simpa using h), Vector.getElem_toList]

end Sys2Proof.Machine
end

section
/-! SUPPORT and PROOFS. The timing settings (O55) and the status image (O56). -/

namespace Sys2Proof.Machine

/-! ### A row whose command is allowed -/

section

variable {s : State} {i : Instr} {c : Command} {args : List Byte} (up : LinkUp s) (frame : frameOf i = some (c, args))
  (allowed : s.lock = false ∨ c.allowedUnderLock = true)

include up frame allowed

/-- A row that only replies. -/
theorem exec_row_of_reply {r : Result} {reply : List Byte} (h : carryAllowed c args s.atCommand = ⟨r, reply, s.atCommand⟩) :
    exec i s = .next (s.answered c r reply) := by
  rw [exec_of_frameOf frame]
  exact congrArg Host.Outcome.next (State.runFrame_of_reply up ((State.carryOut_of_allowed (s := s.atCommand) allowed _).trans h))

/-- A row that is carried out and has no reply. -/
theorem exec_row_of_ok {op : State → State} (blind : FrameBlind op)
    (h : carryAllowed c args s.atCommand = .ok (op s.atCommand)) : exec i s = .next (op (s.answered c .done [])) := by
  rw [exec_of_frameOf frame]
  exact congrArg Host.Outcome.next
    (State.runFrame_of_ok up blind ((State.carryOut_of_allowed (s := s.atCommand) allowed _).trans h))

end

/-! ### The timing image (Table 10-6) -/

theorem attnModeOfByte?_eq_none_iff (b : Byte) : attnModeOfByte? b = none ↔ 1 < b.toNat := by
  unfold attnModeOfByte?
  split
  · next zero => simp [zero]
  · next nonzero =>
    split
    · next one => simp [one]
    · next other =>
      have : b.toNat ≠ 0 := fun h => nonzero (BitVec.eq_of_toNat_eq h)
      have : b.toNat ≠ 1 := fun h => other (BitVec.eq_of_toNat_eq h)
      simp only [true_iff]
      omega

theorem attnMode_code_of_byte {b : Byte} {m : AttnMode} (h : attnModeOfByte? b = some m) : m.code = b := by
  unfold attnModeOfByte? at h
  split at h
  · next zero => cases h; exact zero.symm
  · split at h
    · next one => cases h; exact one.symm
    · cases h

/-- A field is out of its range, or a reserved byte is not zero (R165). -/
def TimingBytesBad (l : List Byte) : Prop :=
  (byteAt l 0 = 0 ∧ byteAt l 1 = 0) ∨ (byteAt l 2 = 0 ∧ byteAt l 3 = 0) ∨ byteAt l 6 = 0 ∨ byteAt l 7 = 0
    ∨ 16 < (byteAt l 7).toNat ∨ 1 < (byteAt l 8).toNat ∨ byteAt l 9 ≠ 0 ∨ byteAt l 10 ≠ 0 ∨ byteAt l 11 ≠ 0

theorem Timing.decode?_eq_none_iff (l : List Byte) : Timing.decode? l = none ↔ TimingBytesBad l := by
  unfold Timing.decode? TimingBytesBad
  cases mode : attnModeOfByte? (byteAt l 8) with
  | none =>
    have large := (attnModeOfByte?_eq_none_iff _).mp mode
    simp [large]
  | some m =>
    have small : ¬ 1 < (byteAt l 8).toNat := fun h => by simp [(attnModeOfByte?_eq_none_iff _).mpr h] at mode
    simp only [Option.bind_eq_bind, Option.bind_some, Timing.legal, ← read16_eq_zero_iff, small, false_or]
    simp only [ite_eq_right_iff, reduceCtorEq, imp_false, Bool.and_eq_true, bne_iff_ne, beq_iff_eq, decide_eq_true_eq,
      not_and_or, not_not, Nat.not_le, or_assoc, Ne]

/-- An accepted timing image is the image of the settings it gives. -/
theorem Timing.encode_of_decode {l : List Byte} {t : Timing} (length : l.length = 12) (h : Timing.decode? l = some t) :
    t.encode = l := by
  unfold Timing.decode? at h
  simp only [Option.bind_eq_bind, Option.bind_eq_some_iff] at h
  obtain ⟨m, mode, h⟩ := h
  split at h
  · next good =>
    cases h
    simp only [Bool.and_eq_true, beq_iff_eq] at good
    obtain ⟨⟨⟨-, b9⟩, b10⟩, b11⟩ := good
    have bytes := eq_map_byteAt l
    rw [length] at bytes
    rw [Timing.encode, bytes16_read16, bytes16_read16, bytes16_read16, attnMode_code_of_byte mode]
    conv_rhs => rw [bytes]
    change _ = [_, _, _, _, _, _, _, _, _, byteAt l 9, byteAt l 10, byteAt l 11]
    rw [b9, b10, b11]
    rfl
  · cases h

/-- Settles O55: an image that decodes is taken, and its settings encode to it. -/
theorem timingCommands : Obligations.TimingCommands := by
  intro image s up
  have fetch : ∀ u : State, LinkUp u → exec .fetchTiming u = .next (u.answered .fetchTiming .done u.timing.encode) :=
    fun u up => exec_row_of_reply up rfl (.inr rfl) rfl
  refine ⟨?_, fun unlocked => ?_⟩
  · rw [fetch s up]
    unfold Timing.encode
    cases s.timing.attnMode <;> rfl
  · have bytes : ∀ k (h : k < 12), image[k] = byteAt image.toList k := fun k h => (byteAt_toList image h).symm
    simp only [bytes]
    change (TimingBytesBad image.toList → _) ∧ (¬ TimingBytesBad image.toList → _)
    rw [← Timing.decode?_eq_none_iff]
    refine ⟨fun bad => ?_, fun good => ?_⟩
    · refine exec_row_of_reply up rfl (.inl unlocked) ?_
      simp only [carryAllowed, carrySetTiming, bad]
      rfl
    · obtain ⟨t, decoded⟩ := Option.ne_none_iff_exists'.mp good
      have set : exec (.setTiming image) s = .next { s.answered .setTiming .done [] with timing := t } := by
        refine exec_row_of_ok (op := fun s => { s with timing := t }) up rfl (.inl unlocked) (fun _ _ => rfl) ?_
        simp only [carryAllowed, carrySetTiming, decoded]
      refine ⟨t, ⟨_, set, _, fetch _ up, ?_⟩, set⟩
      change State.answered _ .fetchTiming .done t.encode = _
      rw [Timing.encode_of_decode (by simp) decoded]
      rfl

/-! ### The status image (Table 10-7) -/

/-- The place of a cause in a cause set's byte (R168). -/
def Cause.place : Cause → Nat
  | .log => 0
  | .lost => 1
  | .sequence => 2
  | .memory => 3

theorem CauseSet.encode_getLsbD (s : CauseSet) (c : Cause) : s.encode.getLsbD c.place = s.has c := by
  obtain ⟨log, lost, sequence, memory⟩ := s
  revert log lost sequence memory
  cases c <;> decide

theorem CauseSet.encode_lt (s : CauseSet) : s.encode.toNat < 16 := by
  rw [CauseSet.encode, toNat_append_eq, BitVec.ofNat_eq_ofNat, BitVec.toNat_ofNat, Nat.zero_mod, Nat.zero_mul, Nat.zero_add]
  exact s.bits.isLt

theorem sixFlags_lt (a b c d e f : Bool) :
    ((0 : BitVec 2) ++ bit a ++ bit b ++ bit c ++ bit d ++ bit e ++ bit f).toNat < 64 := by
  revert a b c d e f
  decide

theorem sixFlags_getLsbD (a b c d e f : Bool) (i : Fin 6) :
    ((0 : BitVec 2) ++ bit a ++ bit b ++ bit c ++ bit d ++ bit e ++ bit f).getLsbD i.val = [f, e, d, c, b, a][i] := by
  revert a b c d e f i
  decide

theorem fourCodes_extract (a b c d : BitVec 2) (g : GroupIndex) :
    (d ++ c ++ b ++ a).extractLsb' (2 * g.val) 2 = [a, b, c, d][g] :=
  match g with
  | 0 => BitVec.extractLsb'_append_eq_right
  | 1 => (BitVec.extractLsb'_append_eq_of_le (by decide)).trans BitVec.extractLsb'_append_eq_right
  | 2 => (BitVec.extractLsb'_append_eq_of_le (by decide)).trans
      ((BitVec.extractLsb'_append_eq_of_le (by decide)).trans BitVec.extractLsb'_append_eq_right)
  | 3 => (BitVec.extractLsb'_append_eq_of_le (by decide)).trans
      ((BitVec.extractLsb'_append_eq_of_le (by decide)).trans BitVec.extractLsb'_append_eq_left)

theorem State.tags_toList (s : State) : s.mtags.toList = (List.finRange 8).map s.tag :=
  List.ext_getElem (by simp) fun k _ _ => by simp [State.tag]

theorem State.filter_tags_length (s : State) (p : TagEntry → Bool) :
    (s.mtags.toList.filter p).length = ((List.finRange 8).filter (fun m => p (s.tag m))).length := by
  rw [s.tags_toList, List.filter_map, List.length_map]
  rfl

theorem filter_tags_lt (p : MTag → Bool) : ((List.finRange 8).filter p).length < 16 :=
  (List.length_filter_le _ _).trans_lt (by simp)

/-- Two numbers share a byte. -/
theorem nibbles_toNat {high low : Nat} (h : high < 16) (l : low < 16) :
    (BitVec.ofNat 4 high ++ BitVec.ofNat 4 low).toNat = high * 16 + low := by
  rw [toNat_append_eq, BitVec.toNat_ofNat, BitVec.toNat_ofNat, Nat.mod_eq_of_lt h, Nat.mod_eq_of_lt l]
  omega

/-- The counts of ACTIVE and ORPHANED tags share a byte (R85). -/
theorem State.tagCounts_toNat (s : State) :
    (BitVec.ofNat 4 s.orphanedTags ++ BitVec.ofNat 4 s.activeTags).toNat = s.orphanedTags * 16 + s.activeTags
      ∧ s.activeTags < 16 := by
  have orphaned : s.orphanedTags < 16 := (s.filter_tags_length _).trans_lt (filter_tags_lt _)
  have active : s.activeTags < 16 := (s.filter_tags_length _).trans_lt (filter_tags_lt _)
  exact ⟨nibbles_toNat orphaned active, active⟩

theorem read16_bytes16_toNat {x : Nat} (h : x ≤ 65535) :
    ((BitVec.ofNat 16 x).extractLsb' 0 8).toNat + 256 * ((BitVec.ofNat 16 x).extractLsb' 8 8).toNat = x := by
  rw [BitVec.extractLsb'_toNat, BitVec.extractLsb'_toNat, BitVec.toNat_ofNat]
  omega

theorem ofNat8_toNat {x : Nat} (h : x ≤ 255) : (BitVec.ofNat 8 x).toNat = x := by
  rw [BitVec.toNat_ofNat]
  omega

/-- Settles O56: each byte of the status image is the item it is made of. -/
theorem readStatusReply : Obligations.ReadStatusReply := by
  intro s up
  have flags := sixFlags_getLsbD s.attnAsserted (s.timing.attnMode == .repulse) s.mportResetting s.rstoAsserted s.lock
    (s.mode == .enforce)
  obtain ⟨counts, small⟩ := s.tagCounts_toNat
  refine ⟨s.statusImage, exec_row_of_reply up rfl (.inr rfl) rfl, rfl, ?_, flags 1, ?_, ?_, ?_, ?_, sixFlags_lt .., ?_, ?_,
    ?_, s.latches.encode_lt, ?_, s.mask.encode_lt, ?_, ?_, ?_, ?_, ?_, rfl, rfl, bytes32_join s.timeBase⟩
  · exact (Bool.eq_iff_iff.mp (flags 0)).trans (beq_iff_eq (a := s.mode) (b := UnitMode.enforce))
  · exact (Bool.eq_iff_iff.mp (flags 2)).trans Option.isSome_iff_ne_none
  · exact (Bool.eq_iff_iff.mp (flags 3)).trans bne_iff_ne
  · exact (Bool.eq_iff_iff.mp (flags 4)).trans (beq_iff_eq (a := s.timing.attnMode) (b := AttnMode.repulse))
  · refine ((Bool.eq_iff_iff.mp (flags 5)).trans s.attnAsserted_iff).trans ?_
    obtain ⟨rst, power⟩ := up
    rw [and_iff_left (a := s.gap = none) ⟨rst, power⟩]
  · exact fun few => ofNat8_toNat (few.trans (by decide))
  · exact read16_bytes16_toNat
  · intro c
    refine Eq.trans ?_ (s.latches.encode_getLsbD c)
    cases c <;> rfl
  · intro c
    refine Eq.trans ?_ (s.mask.encode_getLsbD c)
    cases c <;> rfl
  · intro g
    refine (fourCodes_extract _ _ _ _ g).trans ?_
    have code : [(s.group 0).code, (s.group 1).code, (s.group 2).code, (s.group 3).code][g] = (s.group g).code := by
      match g with
      | 0 => rfl
      | 1 => rfl
      | 2 => rfl
      | 3 => rfl
    refine code.trans ?_
    cases s.group g <;> rfl
  · exact fun few => ofNat8_toNat (few.trans (by decide))
  · exact fun few => ofNat8_toNat (few.trans (by decide))
  · change (BitVec.toNat (BitVec.ofNat 4 s.orphanedTags ++ BitVec.ofNat 4 s.activeTags)) % 16 = _
    rw [counts, show (s.orphanedTags * 16 + s.activeTags) % 16 = s.activeTags by omega]
    exact s.filter_tags_length _
  · change (BitVec.toNat (BitVec.ofNat 4 s.orphanedTags ++ BitVec.ofNat 4 s.activeTags)) / 16 = _
    rw [counts, show (s.orphanedTags * 16 + s.activeTags) / 16 = s.orphanedTags by omega]
    exact s.filter_tags_length _

end Sys2Proof.Machine
end

section
/-! SUPPORT and PROOFS. The region image (O51) and the region commands (O52). -/

namespace Sys2Proof.Machine

/-! ### Codes (Table 10-5) -/

theorem ElementWidth.ofCode?_eq_some_iff (c : BitVec 2) (x : ElementWidth) :
    ElementWidth.ofCode? c = some x ↔ c = x.code := by
  revert c
  cases x <;> decide

theorem ReadAction.ofCode?_eq_some_iff (c : BitVec 2) (x : ReadAction) : ReadAction.ofCode? c = some x ↔ c = x.code := by
  revert c
  cases x <;> decide

theorem ViolationAction.ofCode?_eq_some_iff (c : BitVec 2) (x : ViolationAction) :
    ViolationAction.ofCode? c = some x ↔ c = x.code := by
  revert c
  cases x <;> decide

theorem Policy.ofFields?_eq_some_iff (kind : BitVec 3) (flag : Bool) (p1 p2 : Word) (p : Policy) :
    Policy.ofFields? kind flag p1 p2 = some p ↔ kind = p.kindCode ∧ flag = p.flag ∧ p1 = p.p1 ∧ p2 = p.p2 := by
  constructor
  · intro h
    unfold Policy.ofFields? at h
    split_ifs at h with k0 z k1 z k2 z k3 k4 z <;> cases h
    · exact ⟨k0, z.2.2, z.1, z.2.1⟩
    · exact ⟨k1, z.2.2, z.1, z.2.1⟩
    · exact ⟨k2, z, rfl, rfl⟩
    · exact ⟨k3, rfl, rfl, rfl⟩
    · exact ⟨k4, rfl, rfl, z⟩
  · rintro ⟨rfl, rfl, rfl, rfl⟩
    cases p <;> rfl

theorem Policy.hasFields (p : Policy) : p.HasFields p.kindCode.toNat p.flag.toNat p.p1.toNat p.p2.toNat := by
  cases p <;> exact ⟨rfl, rfl, rfl, rfl⟩

/-- The number of a group, 0 where there is none. -/
def groupNumber (g : Option GroupIndex) : BitVec 2 := BitVec.ofNat 2 (g.elim 0 (·.val))

theorem groupNumber_toNat (g : Option GroupIndex) : (groupNumber g).toNat = g.elim 0 Fin.val := by
  revert g
  decide

/-- What the group field's two parts name. -/
def groupOfFields (present : Bool) (number : BitVec 2) : Option (Option GroupIndex) :=
  if present then some (some ⟨number.toNat, number.isLt⟩) else if number = 0 then some none else none

theorem groupOfFields_eq_some_iff (present : Bool) (number : BitVec 2) (g : Option GroupIndex) :
    groupOfFields present number = some g ↔ present = g.isSome ∧ number = groupNumber g := by
  revert present number g
  decide

theorem decodeGroup_eq_some_iff (b : Byte) (g : Option GroupIndex) :
    decodeGroup b = some g ↔ b.getLsbD 4 = g.isSome ∧ b.extractLsb' 5 2 = groupNumber g :=
  groupOfFields_eq_some_iff _ _ g

theorem decodeAlternate_eq_some_iff (present : Bool) (kind : BitVec 3) (flag : Bool) (p1 p2 : Word) (a : Option Policy) :
    decodeAlternate present kind flag p1 p2 = some a ↔ present = a.isSome ∧ kind = (a.getD .free).kindCode
      ∧ flag = (a.getD .free).flag ∧ p1 = (a.getD .free).p1 ∧ p2 = (a.getD .free).p2 := by
  cases present with
  | true =>
    rw [decodeAlternate, if_pos rfl, Option.map_eq_some_iff]
    constructor
    · rintro ⟨p, h, rfl⟩
      exact ⟨rfl, (Policy.ofFields?_eq_some_iff ..).mp h⟩
    · cases a with
      | none => exact fun h => nomatch h.1
      | some p => exact fun h => ⟨p, (Policy.ofFields?_eq_some_iff ..).mpr h.2, rfl⟩
  | false =>
    rw [decodeAlternate, if_neg Bool.false_ne_true]
    constructor
    · intro h
      split at h
      · next zero => cases h; exact ⟨rfl, zero⟩
      · cases h
    · cases a with
      | none => exact fun h => if_pos h.2
      | some p => exact fun h => nomatch h.1

/-! ### The three bytes of flags and codes (Table 10-4) -/

/-- Byte 7: the width, signedness, shape and note flags. -/
def Region.shapeByte (r : Region) : Byte :=
  bit r.writeNote ++ bit r.allowWord ++ bit r.allowHalf ++ bit r.allowByte ++ bit r.natural ++ bit r.signed ++ r.width.code

/-- Byte 8: the actions, the group and the presence of an alternate policy. -/
def Region.actionByte (r : Region) : Byte :=
  bit r.alternate.isSome ++ groupNumber r.group ++ bit r.group.isSome ++ r.violation.code ++ r.readAction.code

/-- Byte 9: the kinds and flags of both policies. -/
def Region.policyByte (r : Region) : Byte :=
  bit (r.alternate.getD .free).flag ++ (r.alternate.getD .free).kindCode ++ bit r.primary.flag ++ r.primary.kindCode

theorem sixFlagsAndCode_eq_iff (b : Byte) (f7 f6 f5 f4 f3 f2 : Bool) (c : BitVec 2) :
    b = bit f7 ++ bit f6 ++ bit f5 ++ bit f4 ++ bit f3 ++ bit f2 ++ c ↔ b.extractLsb' 0 2 = c ∧ b.getLsbD 2 = f2
      ∧ b.getLsbD 3 = f3 ∧ b.getLsbD 4 = f4 ∧ b.getLsbD 5 = f5 ∧ b.getLsbD 6 = f6 ∧ b.getLsbD 7 = f7 := by
  constructor
  · rintro rfl
    revert f7 f6 f5 f4 f3 f2 c
    decide
  · rintro ⟨rfl, rfl, rfl, rfl, rfl, rfl, rfl⟩
    revert b
    decide

theorem twoFlagsAndCodes_eq_iff (b : Byte) (f7 f4 : Bool) (c5 c2 c0 : BitVec 2) :
    b = bit f7 ++ c5 ++ bit f4 ++ c2 ++ c0 ↔ b.extractLsb' 0 2 = c0 ∧ b.extractLsb' 2 2 = c2 ∧ b.getLsbD 4 = f4
      ∧ b.extractLsb' 5 2 = c5 ∧ b.getLsbD 7 = f7 := by
  constructor
  · rintro rfl
    revert f7 f4 c5 c2 c0
    decide
  · rintro ⟨rfl, rfl, rfl, rfl, rfl⟩
    revert b
    decide

theorem twoKindsAndFlags_eq_iff (b : Byte) (f7 f3 : Bool) (k4 k0 : BitVec 3) :
    b = bit f7 ++ k4 ++ bit f3 ++ k0 ↔
      b.extractLsb' 0 3 = k0 ∧ b.getLsbD 3 = f3 ∧ b.extractLsb' 4 3 = k4 ∧ b.getLsbD 7 = f7 := by
  constructor
  · rintro rfl
    revert f7 f3 k4 k0
    decide
  · rintro ⟨rfl, rfl, rfl, rfl⟩
    revert b
    decide

/-! ### What an accepted image holds -/

/-- The bytes hold the fields of an entry. -/
structure Region.FieldsIn (r : Region) (l : List Byte) : Prop where
  base : read32 l 0 = r.base
  count : read24 l 4 = r.count
  shape : byteAt l 7 = r.shapeByte
  action : byteAt l 8 = r.actionByte
  policy : byteAt l 9 = r.policyByte
  reserved : byteAt l 10 = 0 ∧ byteAt l 11 = 0
  primary : read32 l 12 = r.primary.p1 ∧ read32 l 16 = r.primary.p2
  alternate : read32 l 20 = (r.alternate.getD .free).p1 ∧ read32 l 24 = (r.alternate.getD .free).p2
  fill : read32 l 28 = r.fill

theorem Region.fieldsIn_encode (r : Region) : r.FieldsIn r.encode where
  base := bytes32_join _
  count := bytes24_join _
  shape := rfl
  action := rfl
  policy := rfl
  reserved := ⟨rfl, rfl⟩
  primary := ⟨bytes32_join _, bytes32_join _⟩
  alternate := ⟨bytes32_join _, bytes32_join _⟩
  fill := bytes32_join _

theorem Region.encode_length (r : Region) : r.encode.length = 32 := rfl

/-- Thirty-two bytes that hold an entry's fields are its image. -/
theorem Region.FieldsIn.encode_eq {r : Region} {l : List Byte} (h : r.FieldsIn l) (length : l.length = 32) :
    r.encode = l := by
  obtain ⟨base, count, shape, action, policy, ⟨zero10, zero11⟩, ⟨p1, p2⟩, ⟨a1, a2⟩, fill⟩ := h
  have bytes := eq_map_byteAt l
  rw [length] at bytes
  calc r.encode
    _ = bytes32 r.base ++ bytes24 r.count ++ [r.shapeByte, r.actionByte, r.policyByte, 0, 0]
        ++ bytes32 r.primary.p1 ++ bytes32 r.primary.p2 ++ bytes32 (r.alternate.getD .free).p1
        ++ bytes32 (r.alternate.getD .free).p2 ++ bytes32 r.fill := rfl
    _ = bytes32 (read32 l 0) ++ bytes24 (read24 l 4)
        ++ [byteAt l 7, byteAt l 8, byteAt l 9, byteAt l 10, byteAt l 11] ++ bytes32 (read32 l 12)
        ++ bytes32 (read32 l 16) ++ bytes32 (read32 l 20) ++ bytes32 (read32 l 24) ++ bytes32 (read32 l 28) := by
      rw [base, count, shape, action, policy, zero10, zero11, p1, p2, a1, a2, fill]
    _ = (List.range 32).map (byteAt l) := by
      rw [bytes32_read32, bytes24_read24, bytes32_read32, bytes32_read32, bytes32_read32, bytes32_read32, bytes32_read32]
      rfl
    _ = l := bytes.symm

theorem Region.decode?_eq_some_iff (l : List Byte) (r : Region) :
    Region.decode? l = some r ↔ r.legal = true ∧ r.FieldsIn l := by
  simp only [Region.decode?, Option.bind_eq_bind, Option.bind_eq_some_iff, ElementWidth.ofCode?_eq_some_iff,
    ReadAction.ofCode?_eq_some_iff, ViolationAction.ofCode?_eq_some_iff, decodeGroup_eq_some_iff,
    Policy.ofFields?_eq_some_iff, decodeAlternate_eq_some_iff, Option.ite_none_right_eq_some, Option.some.injEq,
    Bool.and_eq_true, beq_iff_eq]
  constructor
  · rintro ⟨width, w, readAction, ra, violation, v, group, ⟨gp, gn⟩, primary, ⟨pk, pf, p1, p2⟩, alternate,
      ⟨ap, ak, af, a1, a2⟩, ⟨⟨legal, zero10⟩, zero11⟩, rfl⟩
    exact ⟨legal, rfl, rfl, (sixFlagsAndCode_eq_iff ..).mpr ⟨w, rfl, rfl, rfl, rfl, rfl, rfl⟩,
      (twoFlagsAndCodes_eq_iff ..).mpr ⟨ra, v, gp, gn, ap⟩, (twoKindsAndFlags_eq_iff ..).mpr ⟨pk, pf, ak, af⟩,
      ⟨zero10, zero11⟩, ⟨p1, p2⟩, ⟨a1, a2⟩, rfl⟩
  · rintro ⟨legal, base, count, shape, action, policy, ⟨zero10, zero11⟩, ⟨p1, p2⟩, ⟨a1, a2⟩, fill⟩
    obtain ⟨w, signed, natural, byte_, half, word, note⟩ := (sixFlagsAndCode_eq_iff ..).mp shape
    obtain ⟨ra, v, gp, gn, ap⟩ := (twoFlagsAndCodes_eq_iff ..).mp action
    obtain ⟨pk, pf, ak, af⟩ := (twoKindsAndFlags_eq_iff ..).mp policy
    refine ⟨r.width, w, r.readAction, ra, r.violation, v, r.group, ⟨gp, gn⟩, r.primary, ⟨pk, pf, p1, p2⟩, r.alternate,
      ⟨ap, ak, af, a1, a2⟩, ?_⟩
    rw [base, count, signed, natural, byte_, half, word, note, fill]
    exact ⟨⟨⟨legal, zero10⟩, zero11⟩, rfl⟩

/-- An image of 32 bytes is accepted where it is the image of a legal entry. -/
theorem Region.decode?_eq_some_iff_encode {l : List Byte} (length : l.length = 32) (r : Region) :
    Region.decode? l = some r ↔ r.legal = true ∧ r.encode = l := by
  rw [Region.decode?_eq_some_iff]
  refine and_congr_right fun _ => ⟨fun h => h.encode_eq length, ?_⟩
  rintro rfl
  exact r.fieldsIn_encode

theorem Region.hasImage_encode (r : Region) : r.HasImage r.encode := by
  obtain ⟨base, count, shape, action, policy, ⟨zero10, zero11⟩, ⟨p1, p2⟩, ⟨a1, a2⟩, fill⟩ := r.fieldsIn_encode
  obtain ⟨w, signed, natural, byte_, half, word, note⟩ := (sixFlagsAndCode_eq_iff ..).mp shape
  obtain ⟨ra, v, gp, gn, ap⟩ := (twoFlagsAndCodes_eq_iff ..).mp action
  obtain ⟨pk, pf, ak, af⟩ := (twoKindsAndFlags_eq_iff ..).mp policy
  constructor
  case length => rfl
  case base => rw [fieldAt_four, base]
  case count => rw [fieldAt_three, count]
  case width =>
    rw [bitsAt_eq, w]
    cases r.width <;> rfl
  case signed => rw [bitsAt_one, signed]
  case natural => rw [bitsAt_one, natural]
  case sizes => rw [bitsAt_one, bitsAt_one, bitsAt_one, byte_, half, word]; exact ⟨rfl, rfl, rfl⟩
  case writeNote => rw [bitsAt_one, note]
  case readAction =>
    rw [bitsAt_eq, ra]
    cases r.readAction <;> rfl
  case violation =>
    rw [bitsAt_eq, v]
    cases r.violation <;> rfl
  case groupPresent => rw [bitsAt_one, gp]
  case group =>
    rw [bitsAt_eq, gn]
    exact groupNumber_toNat r.group
  case alternatePresent => rw [bitsAt_one, ap]
  case primary =>
    rw [bitsAt_eq, bitsAt_one, fieldAt_four, fieldAt_four, pk, pf, p1, p2]
    exact r.primary.hasFields
  case alternate =>
    rw [bitsAt_eq, bitsAt_one, fieldAt_four, fieldAt_four, ak, af, a1, a2]
    exact (r.alternate.getD .free).hasFields
  case reserved =>
    rw [fieldAt_succ, fieldAt_one, zero10, zero11]
    rfl
  case fill => rw [fieldAt_four, fill]

/-! ### Legal entries (Table 1-5) -/

theorem lowBits_eq_zero_iff (x : Word) : (x.extractLsb' 0 2 == 0) = true ↔ x.toNat % 4 = 0 := by
  rw [beq_iff_eq, ← BitVec.toNat_inj, BitVec.extractLsb'_toNat, Nat.shiftRight_zero]
  rfl

/-- A bound of a policy under the signedness. -/
def boundValue (signed : Bool) (p : Word) : Int := if signed = true then p.toInt else p.toNat

/-- Two bounds in the range of an element, in order. -/
theorem bounds_legal_iff (w : ElementWidth) (signed : Bool) (lo hi : Word) :
    (inElementRange w signed (paramValue signed lo) && inElementRange w signed (paramValue signed hi)
      && decide (paramValue signed lo ≤ paramValue signed hi)) = true ↔
    (if signed = true then -(2 ^ (8 * w.lanes - 1)) else 0) ≤ boundValue signed lo
      ∧ boundValue signed lo ≤ boundValue signed hi
      ∧ boundValue signed hi ≤ if signed = true then 2 ^ (8 * w.lanes - 1) - 1 else 2 ^ (8 * w.lanes) - 1 := by
  rw [Bool.and_eq_true, Bool.and_eq_true, inElementRange_iff_bounds, inElementRange_iff_bounds, decide_eq_true_eq,
    paramValue_eq, paramValue_eq]
  unfold boundValue
  generalize (2 : Int) ^ (8 * w.lanes - 1) = half, (2 : Int) ^ (8 * w.lanes) = full
  cases signed with
  | false =>
    simp only [Bool.false_eq_true, if_false]
    omega
  | true =>
    simp only [if_true]
    omega

/-- Settles O51: an image of 32 bytes is accepted exactly where it is the image of a legal entry. -/
theorem regionImageRoundTrip : Obligations.RegionImageRoundTrip := by
  refine ⟨fun r => ?_, fun l length => ?_, fun r legal => ⟨r.hasImage_encode, ?_⟩, fun l r length h =>
    (Region.decode?_eq_some_iff_encode length r).mp h⟩
  · intro w bound fits
    have width : w = 8 * r.width.lanes := by
      unfold w
      cases r.width <;> rfl
    have policy : ∀ p, Policy.legal r.width r.signed p = true ↔ fits p := by
      intro p
      cases p with
      | free => exact iff_of_true rfl trivial
      | frozen => exact iff_of_true rfl trivial
      | bounded lo hi =>
        change _ ↔ _ ≤ _ ∧ _
        rw [width]
        exact bounds_legal_iff r.width r.signed lo hi
      | stepped lo hi wrapAllow =>
        change _ ↔ _ ≤ _ ∧ _
        rw [width]
        exact bounds_legal_iff r.width true lo hi
      | gated companion nonzero => exact lowBits_eq_zero_iff companion
    rw [Region.legal]
    simp only [Bool.and_eq_true, Bool.or_eq_true, lowBits_eq_zero_iff, bne_iff_ne, decide_eq_true_eq, policy, and_assoc, or_assoc]
    refine and_congr_right fun _ => and_congr_right fun _ => and_congr_right fun _ => and_congr_right fun _ =>
      and_congr_right fun _ => ?_
    cases r.alternate with
    | none => simp
    | some p => simp [policy, Option.isSome_iff_ne_none]
  · simp only [Option.eq_none_iff_forall_ne_some, ne_eq, Region.decode?_eq_some_iff_encode length, not_and]
  · exact (Region.decode?_eq_some_iff_encode r.encode_length r).mpr ⟨legal, rfl⟩

/-! ### The region commands (R12, R13, R17) -/

theorem regionOfByte?_ofNat (i : RegionIndex) : regionOfByte? (BitVec.ofNat 8 i.val) = some i := by
  revert i
  decide

theorem regionOfByte?_eq_none {b : Byte} (h : 31 < b.toNat) : regionOfByte? b = none := dif_neg (by omega)

theorem frameBlind_setRegion (i : RegionIndex) (r : Option Region) : FrameBlind (State.setRegion i r) := fun _ _ => rfl

section

variable {b : Byte} {i : RegionIndex} {s : State} (up : LinkUp s) (byte : b = BitVec.ofNat 8 i.val)

include up byte

theorem exec_loadRegion_of_decoded {image : Vector Byte 32} {r : Region} (unlocked : s.lock = false)
    (decoded : Region.decode? image.toList = some r) :
    exec (.loadRegion b image) s = .next ((s.answered .loadRegion .done []).setRegion i (some r)) := by
  subst byte
  refine exec_row_of_ok up rfl (.inl unlocked) (frameBlind_setRegion i (some r)) ?_
  have index : regionOfByte? (byteAt (BitVec.ofNat 8 i.val :: image.toList) 0) = some i := regionOfByte?_ofNat i
  simp only [carryAllowed, carryLoadRegion, index, List.drop_succ_cons, List.drop_zero, decoded]

theorem exec_loadRegion_of_refused {image : Vector Byte 32} (unlocked : s.lock = false)
    (refused : Region.decode? image.toList = none) :
    exec (.loadRegion b image) s = .next (s.answered .loadRegion .badField []) := by
  subst byte
  refine exec_row_of_reply up rfl (.inl unlocked) ?_
  have index : regionOfByte? (byteAt (BitVec.ofNat 8 i.val :: image.toList) 0) = some i := regionOfByte?_ofNat i
  simp only [carryAllowed, carryLoadRegion, index, List.drop_succ_cons, List.drop_zero, refused]
  rfl

theorem exec_dropRegion (unlocked : s.lock = false) :
    exec (.dropRegion b) s = .next ((s.answered .dropRegion .done []).setRegion i none) := by
  subst byte
  refine exec_row_of_ok up rfl (.inl unlocked) (frameBlind_setRegion i none) ?_
  have index : regionOfByte? (byteAt [BitVec.ofNat 8 i.val] 0) = some i := regionOfByte?_ofNat i
  simp only [carryAllowed, carryDropRegion, index]

theorem exec_fetchRegion :
    exec (.fetchRegion b) s = .next (s.answered .fetchRegion .done (regionReply (s.region i))) := by
  subst byte
  refine exec_row_of_reply up rfl (.inr rfl) ?_
  have index : regionOfByte? (byteAt [BitVec.ofNat 8 i.val] 0) = some i := regionOfByte?_ofNat i
  simp only [carryAllowed, carryFetchRegion, index]
  rfl

end

/-- Settles O52: the entry that an image gives is fetched as that image. -/
theorem regionCommands : Obligations.RegionCommands := by
  intro b s up
  refine ⟨fun i byte => ⟨fun image r unlocked decoded => ?_, fun image unlocked refused =>
    exec_loadRegion_of_refused up byte unlocked refused, exec_dropRegion up byte, fun absent => ?_, fun r present => ?_⟩,
    fun bad => ?_⟩
  · have loaded := exec_loadRegion_of_decoded up byte unlocked decoded
    refine ⟨loaded, _, loaded, _, exec_fetchRegion up byte, ?_⟩
    rw [State.region_setRegion, if_pos rfl, regionReply, ((Region.decode?_eq_some_iff_encode (by simp) r).mp decoded).2]
    rfl
  · rw [exec_fetchRegion up byte, absent, regionReply]
  · rw [exec_fetchRegion up byte, present, regionReply]
  · refine ⟨exec_row_of_reply up rfl (.inr rfl) ?_, fun unlocked => ⟨exec_row_of_reply up rfl (.inl unlocked) ?_,
      fun image => exec_row_of_reply up rfl (.inl unlocked) ?_⟩⟩
    · have index : regionOfByte? (byteAt [b] 0) = none := regionOfByte?_eq_none bad
      simp only [carryAllowed, carryFetchRegion, index]
      rfl
    · have index : regionOfByte? (byteAt [b] 0) = none := regionOfByte?_eq_none bad
      simp only [carryAllowed, carryDropRegion, index]
      rfl
    · have index : regionOfByte? (byteAt (b :: image.toList) 0) = none := regionOfByte?_eq_none bad
      simp only [carryAllowed, carryLoadRegion, index]
      rfl

end Sys2Proof.Machine
end

section
/-! SUPPORT and PROOFS. The sequence image (O53) and the sequence commands (O54). -/

namespace Sys2Proof.Machine

/-! ### Runs of bytes -/

/-- The `n` bytes of an image from byte `i` on. -/
def slice (l : List Byte) (i n : Nat) : List Byte := (List.range n).map (fun j => byteAt l (i + j))

theorem slice_add (l : List Byte) (i m n : Nat) : slice l i (m + n) = slice l i m ++ slice l (i + m) n := by
  simp only [slice, List.range_add, List.map_append, List.map_map, Function.comp_def, Nat.add_assoc]

theorem slice_all (l : List Byte) : slice l 0 l.length = l := by
  simp only [slice, Nat.zero_add]
  exact (eq_map_byteAt l).symm

theorem byteAt_append_right (a b : List Byte) (i : Nat) : byteAt (a ++ b) (a.length + i) = byteAt b i := by
  simp [byteAt, List.getElem?_append_right]

theorem byteAt_append_left {a : List Byte} {i : Nat} (h : i < a.length) (b : List Byte) : byteAt (a ++ b) i = byteAt a i := by
  simp [byteAt, List.getElem?_append_left h]

theorem byteAt_replicate (n i : Nat) : byteAt (List.replicate n 0) i = 0 := by
  by_cases h : i < n <;> simp [byteAt, h]

theorem slice_append_right (a b : List Byte) (i n : Nat) : slice (a ++ b) (a.length + i) n = slice b i n := by
  simp only [slice, Nat.add_assoc, byteAt_append_right]

theorem slice_append_left {a : List Byte} {i n : Nat} (h : i + n ≤ a.length) (b : List Byte) :
    slice (a ++ b) i n = slice a i n :=
  List.map_congr_left fun j hj => byteAt_append_left (by have := List.mem_range.mp hj; omega) b

/-! ### A step's ten bytes (Table 10-6a) -/

/-- The bytes from byte `i` on hold the fields of a step. -/
structure SeqStep.At (st : SeqStep) (l : List Byte) (i : Nat) : Prop where
  kind : byteAt l i = (accessKindCode st.kind).setWidth 8
  region : byteAt l (i + 1) = BitVec.ofNat 8 st.region.val
  mask : read32 l (i + 2) = st.mask
  value : read32 l (i + 6) = st.value

theorem kindOfByte?_eq_some_iff (b : Byte) (k : AccessKind) : kindOfByte? b = some k ↔ b = (accessKindCode k).setWidth 8 := by
  revert b
  cases k <;> decide

theorem regionOfByte?_eq_some_iff (b : Byte) (i : RegionIndex) : regionOfByte? b = some i ↔ b = BitVec.ofNat 8 i.val := by
  constructor
  · intro h
    unfold regionOfByte? at h
    split at h
    · cases h
      simp
    · cases h
  · rintro rfl
    exact regionOfByte?_ofNat i

theorem decodeStep_eq_some_iff (l : List Byte) (i : Nat) (st : SeqStep) : decodeStep l i = some st ↔ st.At l i := by
  simp only [decodeStep, Option.bind_eq_bind, Option.bind_eq_some_iff, kindOfByte?_eq_some_iff, regionOfByte?_eq_some_iff,
    Option.some.injEq]
  constructor
  · rintro ⟨kind, k, region, r, rfl⟩
    exact ⟨k, r, rfl, rfl⟩
  · rintro ⟨k, r, mask, value⟩
    exact ⟨st.kind, k, st.region, r, by rw [mask, value]⟩

theorem read32_eq_iff (l : List Byte) (i : Nat) (x : BitVec 32) : read32 l i = x ↔ slice l i 4 = bytes32 x := by
  have read : slice l i 4 = bytes32 (read32 l i) := (bytes32_read32 l i).symm
  rw [read]
  refine ⟨congrArg bytes32, fun h => ?_⟩
  have join : ∀ y : BitVec 32, read32 (bytes32 y) 0 = y := bytes32_join
  rw [← join (read32 l i), h, join]

theorem SeqStep.at_iff (st : SeqStep) (l : List Byte) (i : Nat) : st.At l i ↔ slice l i 10 = st.encode := by
  have split : slice l i 10 = [byteAt l i, byteAt l (i + 1)] ++ slice l (i + 2) 4 ++ slice l (i + 6) 4 := rfl
  rw [split, SeqStep.encode]
  constructor
  · rintro ⟨k, r, mask, value⟩
    rw [k, r, (read32_eq_iff ..).mp mask, (read32_eq_iff ..).mp value]
  · intro h
    obtain ⟨front, value⟩ := List.append_inj h rfl
    obtain ⟨head, mask⟩ := List.append_inj front rfl
    simp only [List.cons.injEq, and_true] at head
    exact ⟨head.1, head.2, (read32_eq_iff ..).mpr mask, (read32_eq_iff ..).mpr value⟩

theorem SeqStep.encode_length (st : SeqStep) : st.encode.length = 10 := rfl

/-- The bytes of the steps one after another. -/
theorem slice_steps (l : List Byte) (i : Nat) (steps : List SeqStep) :
    (List.range steps.length).map (fun k => decodeStep l (i + 10 * k)) = steps.map some ↔
      slice l i (10 * steps.length) = steps.flatMap SeqStep.encode := by
  induction steps generalizing i with
  | nil => exact iff_of_true rfl rfl
  | cons st steps ih =>
    rw [List.length_cons, Nat.mul_succ, Nat.add_comm (10 * steps.length), slice_add, List.flatMap_cons, List.range_succ_eq_map,
      List.map_cons, List.map_cons, List.cons.injEq, List.map_map, Nat.mul_zero, Nat.add_zero, decodeStep_eq_some_iff,
      SeqStep.at_iff]
    have shift : (fun k => decodeStep l (i + 10 * k)) ∘ Nat.succ = fun k => decodeStep l (i + 10 + 10 * k) := by
      funext k
      exact congrArg (decodeStep l) (by omega)
    rw [shift, ih]
    constructor
    · rintro ⟨head, tail⟩
      rw [head, tail]
    · exact fun h => List.append_inj h rfl

theorem steps_length (steps : List SeqStep) : (steps.flatMap SeqStep.encode).length = 10 * steps.length := by
  induction steps with
  | nil => rfl
  | cons st steps ih =>
    rw [List.flatMap_cons, List.length_append, ih, st.encode_length, List.length_cons]
    omega

/-! ### The whole image (Table 10-6a) -/

theorem groupOfByte?_eq_some_iff (b : Byte) (g : GroupIndex) : groupOfByte? b = some g ↔ b = BitVec.ofNat 8 g.val := by
  constructor
  · intro h
    unfold groupOfByte? at h
    split at h
    · cases h
      simp
    · cases h
  · rintro rfl
    exact groupOfByte?_ofNat g

theorem decodeAction_eq_some_iff (code group : Byte) (duration : BitVec 16) (a : SeqAction) :
    decodeAction code group duration = some a ↔ (code = a.code ∧ group = a.groupByte ∧ duration = a.duration)
      ∧ ∀ g d, a = .openWindow g d → d ≠ 0 := by
  constructor
  · intro h
    refine ⟨?_, fun g d e => decodeAction_duration (e ▸ h)⟩
    unfold decodeAction at h
    split_ifs at h with c0 z c1 z c2 z c3 z
    · cases h; exact ⟨c0, z⟩
    · cases h; exact ⟨c1, z⟩
    · obtain ⟨g, byte, rfl⟩ := Option.map_eq_some_iff.mp h
      exact ⟨c2, (groupOfByte?_eq_some_iff ..).mp byte, rfl⟩
    · obtain ⟨g, byte, rfl⟩ := Option.map_eq_some_iff.mp h
      exact ⟨c3, (groupOfByte?_eq_some_iff ..).mp byte, z⟩
  · rintro ⟨⟨rfl, rfl, rfl⟩, long⟩
    cases a with
    | noteOnly => rfl
    | resetPulse => rfl
    | openWindow g d =>
      change (if d = 0 then none else (groupOfByte? (BitVec.ofNat 8 g.val)).map (fun g => SeqAction.openWindow g d)) = _
      rw [if_neg (long g d rfl), groupOfByte?_ofNat, Option.map_some]
    | freezeGroup g =>
      change (groupOfByte? (BitVec.ofNat 8 g.val)).map SeqAction.freezeGroup = _
      rw [groupOfByte?_ofNat, Option.map_some]

/-- The eight bytes before the steps. -/
def SeqDef.header (d : SeqDef) : List Byte :=
  [BitVec.ofNat 8 d.steps.length] ++ bytes16 d.gap ++ [d.action.code, d.action.groupByte] ++ bytes16 d.action.duration ++ [0]

/-- The bytes after the steps. -/
def SeqDef.padding (d : SeqDef) : List Byte := List.replicate (10 * (maxSteps - d.steps.length)) 0

theorem SeqDef.encode_eq (d : SeqDef) : d.encode = d.header ++ (d.steps.flatMap SeqStep.encode ++ d.padding) := by
  rw [← List.append_assoc]
  rfl

theorem SeqDef.header_length (d : SeqDef) : d.header.length = 8 := rfl

/-- Six steps at most: the image has 68 bytes. -/
theorem SeqDef.encode_length {d : SeqDef} (h : d.steps.length ≤ 6) : d.encode.length = 68 := by
  rw [d.encode_eq, List.length_append, List.length_append, d.header_length, steps_length, SeqDef.padding,
    List.length_replicate, maxSteps]
  omega

theorem SeqDef.slice_encode_steps (d : SeqDef) :
    slice d.encode 8 (10 * d.steps.length) = d.steps.flatMap SeqStep.encode := by
  have tail := slice_append_right d.header (d.steps.flatMap SeqStep.encode ++ d.padding) 0 (10 * d.steps.length)
  rw [d.header_length] at tail
  rw [d.encode_eq, tail, slice_append_left (by rw [steps_length, Nat.zero_add]), ← steps_length, slice_all]

theorem SeqDef.byteAt_encode_padding (d : SeqDef) (k : Nat) : byteAt d.encode (8 + 10 * d.steps.length + k) = 0 := by
  have front : (d.header ++ d.steps.flatMap SeqStep.encode).length = 8 + 10 * d.steps.length := by
    rw [List.length_append, steps_length, d.header_length]
  rw [d.encode_eq, ← List.append_assoc, ← front, byteAt_append_right, SeqDef.padding, byteAt_replicate]

theorem SeqDef.count_toNat {d : SeqDef} (h : d.steps.length ≤ 6) : (byteAt d.encode 0).toNat = d.steps.length :=
  ofNat8_toNat (by omega)

/-- The image of a legal definition is accepted. -/
theorem SeqDef.decode?_encode {d : SeqDef} (legal : d.legal = true) : SeqDef.decode? d.encode = some d := by
  obtain ⟨least, most, gap, long⟩ := d.legal_iff.mp legal
  have count := SeqDef.count_toNat most
  have readGap : read16 d.encode 1 = d.gap := bytes16_join d.gap
  have duration : read16 d.encode 5 = d.action.duration := bytes16_join d.action.duration
  rw [SeqDef.decode?_eq_some_iff, count, readGap, duration, slice_steps, decodeAction_eq_some_iff]
  exact ⟨⟨by omega, most⟩, ⟨gap, rfl⟩, rfl, ⟨⟨rfl, rfl, rfl⟩, long⟩, d.slice_encode_steps,
    fun k _ => d.byteAt_encode_padding k⟩

/-- An accepted image of 68 bytes is the image of the definition it gives. -/
theorem SeqDef.encode_of_decode {l : List Byte} {d : SeqDef} (length : l.length = 68) (h : SeqDef.decode? l = some d) :
    d.encode = l := by
  obtain ⟨⟨-, most⟩, ⟨-, gap⟩, reserved, action, steps, unused⟩ := (SeqDef.decode?_eq_some_iff l d).mp h
  obtain ⟨⟨code, group, duration⟩, -⟩ := (decodeAction_eq_some_iff ..).mp action
  have count : (byteAt l 0).toNat = d.steps.length := by simpa using congrArg List.length steps
  rw [count] at most steps unused
  have header : d.header = slice l 0 8 := by
    rw [SeqDef.header, ← count, ← gap, ← code, ← group, ← duration, bytes16_read16, bytes16_read16, ← reserved,
      BitVec.ofNat_toNat, BitVec.setWidth_eq]
    rfl
  have padding : d.padding = slice l (8 + 10 * d.steps.length) (10 * (maxSteps - d.steps.length)) := by
    refine (List.eq_replicate_iff.mpr ⟨by simp [slice], fun b hb => ?_⟩).symm
    obtain ⟨k, hk, rfl⟩ := List.mem_map.mp hb
    exact unused k (List.mem_range.mp hk)
  have total : 68 = 8 + (10 * d.steps.length + 10 * (maxSteps - d.steps.length)) := by
    unfold maxSteps at most ⊢
    omega
  calc d.encode
    _ = d.header ++ (d.steps.flatMap SeqStep.encode ++ d.padding) := d.encode_eq
    _ = slice l 0 68 := by
      rw [header, ← (slice_steps ..).mp steps, padding, total, slice_add, slice_add]
    _ = l := by rw [← length, slice_all]

theorem SeqDef.decode?_eq_some_iff_encode {l : List Byte} (length : l.length = 68) (d : SeqDef) :
    SeqDef.decode? l = some d ↔ d.legal = true ∧ d.encode = l := by
  refine ⟨fun h => ⟨SeqDef.legal_of_decode h, SeqDef.encode_of_decode length h⟩, ?_⟩
  rintro ⟨legal, rfl⟩
  exact SeqDef.decode?_encode legal

theorem SeqDef.hasImage_encode {d : SeqDef} (legal : d.legal = true) : d.HasImage d.encode := by
  obtain ⟨-, most, -, -⟩ := d.legal_iff.mp legal
  constructor
  case length => exact SeqDef.encode_length most
  case count => rw [fieldAt_one, SeqDef.count_toNat most]
  case gap =>
    rw [fieldAt_two]
    exact congrArg BitVec.toNat (bytes16_join d.gap)
  case action =>
    have code : byteAt d.encode 3 = d.action.code := rfl
    have group : byteAt d.encode 4 = d.action.groupByte := rfl
    have duration : read16 d.encode 5 = d.action.duration := bytes16_join d.action.duration
    have small : ∀ g : GroupIndex, (BitVec.ofNat 8 g.val).toNat = g.val := fun g => ofNat8_toNat (by omega)
    rw [fieldAt_one, fieldAt_one, fieldAt_two, code, group, duration]
    cases d.action with
    | noteOnly => exact ⟨rfl, rfl, rfl⟩
    | resetPulse => exact ⟨rfl, rfl, rfl⟩
    | openWindow g duration => exact ⟨rfl, small g, rfl⟩
    | freezeGroup g => exact ⟨rfl, small g, rfl⟩
  case reserved =>
    rw [fieldAt_one]
    rfl
  case steps =>
    intro k st hk
    obtain ⟨inside, rfl⟩ := List.getElem?_eq_some_iff.mp hk
    have all := (slice_steps d.encode 8 d.steps).mpr d.slice_encode_steps
    have here : decodeStep d.encode (8 + 10 * k) = some d.steps[k] := by
      simpa [inside] using congrArg (fun l => l[k]?) all
    obtain ⟨kind, region, mask, value⟩ := (decodeStep_eq_some_iff ..).mp here
    rw [fieldAt_one, fieldAt_one, fieldAt_four, fieldAt_four, show 9 + 10 * k = 8 + 10 * k + 1 by omega,
      show 10 + 10 * k = 8 + 10 * k + 2 by omega, show 14 + 10 * k = 8 + 10 * k + 6 by omega, kind, region, mask, value]
    refine ⟨?_, ofNat8_toNat (by omega), rfl, rfl⟩
    cases d.steps[k].kind <;> rfl
  case unused =>
    intro k low _
    obtain ⟨j, rfl⟩ := Nat.exists_eq_add_of_le low
    rw [fieldAt_one, d.byteAt_encode_padding]
    rfl

/-- Settles O53: an image of 68 bytes is accepted exactly where it is the image of a legal definition. -/
theorem sequenceImageRoundTrip : Obligations.SequenceImageRoundTrip := by
  refine ⟨SeqDef.legal_iff, fun l length => ?_, fun d legal => ⟨SeqDef.hasImage_encode legal, SeqDef.decode?_encode legal⟩,
    fun l d length h => (SeqDef.decode?_eq_some_iff_encode length d).mp h⟩
  simp only [Option.eq_none_iff_forall_ne_some, ne_eq, SeqDef.decode?_eq_some_iff_encode length, not_and]

/-! ### The sequence commands (R116 to R118) -/

theorem matcherOfByte?_ofNat (i : MatcherIndex) : matcherOfByte? (BitVec.ofNat 8 i.val) = some i := by
  revert i
  decide

theorem matcherOfByte?_eq_none {b : Byte} (h : 3 < b.toNat) : matcherOfByte? b = none := dif_neg (by omega)

theorem frameBlind_setMatcher (i : MatcherIndex) (m : Option Matcher) : FrameBlind (State.setMatcher i m) := fun _ _ => rfl

section

variable {b : Byte} {i : MatcherIndex} {s : State} (up : LinkUp s) (byte : b = BitVec.ofNat 8 i.val)

include up byte

theorem exec_loadSequence_of_decoded {image : Vector Byte 68} {d : SeqDef} (unlocked : s.lock = false)
    (decoded : SeqDef.decode? image.toList = some d) :
    exec (.loadSequence b image) s = .next ((s.answered .loadSequence .done []).setMatcher i (some ⟨d, 0, none⟩)) := by
  subst byte
  refine exec_row_of_ok up rfl (.inl unlocked) (frameBlind_setMatcher i (some ⟨d, 0, none⟩)) ?_
  have index : matcherOfByte? (byteAt (BitVec.ofNat 8 i.val :: image.toList) 0) = some i := matcherOfByte?_ofNat i
  simp only [carryAllowed, carryLoadSequence, index, List.drop_succ_cons, List.drop_zero, decoded]

theorem exec_loadSequence_of_refused {image : Vector Byte 68} (unlocked : s.lock = false)
    (refused : SeqDef.decode? image.toList = none) :
    exec (.loadSequence b image) s = .next (s.answered .loadSequence .badField []) := by
  subst byte
  refine exec_row_of_reply up rfl (.inl unlocked) ?_
  have index : matcherOfByte? (byteAt (BitVec.ofNat 8 i.val :: image.toList) 0) = some i := matcherOfByte?_ofNat i
  simp only [carryAllowed, carryLoadSequence, index, List.drop_succ_cons, List.drop_zero, refused]
  rfl

theorem exec_dropSequence (unlocked : s.lock = false) :
    exec (.dropSequence b) s = .next ((s.answered .dropSequence .done []).setMatcher i none) := by
  subst byte
  refine exec_row_of_ok up rfl (.inl unlocked) (frameBlind_setMatcher i none) ?_
  have index : matcherOfByte? (byteAt [BitVec.ofNat 8 i.val] 0) = some i := matcherOfByte?_ofNat i
  simp only [carryAllowed, carryDropSequence, index]

theorem exec_fetchSequence : exec (.fetchSequence b) s =
    .next (s.answered .fetchSequence .done (sequenceReply (s.matcher i) s.timeBase)) := by
  subst byte
  refine exec_row_of_reply up rfl (.inr rfl) ?_
  have index : matcherOfByte? (byteAt [BitVec.ofNat 8 i.val] 0) = some i := matcherOfByte?_ofNat i
  simp only [carryAllowed, carryFetchSequence, index]
  rfl

end

theorem sequenceReply_of_no_deadline {m : Matcher} (h : m.deadline = none) (now : Time) :
    sequenceReply (some m) now = m.defn.encode ++ [1, BitVec.ofNat 8 m.progress, 0, 0] := by
  rw [sequenceReply, Matcher.remainingGap, h]
  dsimp only
  rw [List.append_assoc]
  rfl

theorem sequenceReply_of_deadline {m : Matcher} {e : Time} (h : m.deadline = some e) (now : Time) :
    sequenceReply (some m) now = m.defn.encode ++ [1, BitVec.ofNat 8 m.progress]
      ++ bytes16 (BitVec.ofNat 16 (((e - now).toNat + 999) / 1000)) := by
  rw [sequenceReply, Matcher.remainingGap, h]
  rfl

/-- Settles O54: the definition that an image gives is fetched as that image, at its first step. -/
theorem sequenceCommands : Obligations.SequenceCommands := by
  intro b s up
  refine ⟨fun i byte => ⟨fun image d unlocked decoded => ?_, fun image unlocked refused =>
    exec_loadSequence_of_refused up byte unlocked refused, exec_dropSequence up byte, fun absent => ?_,
    fun m defined still => ?_, fun m defined sound start => ?_, fun m e defined deadline near => ?_⟩, fun bad => ?_⟩
  · have loaded := exec_loadSequence_of_decoded up byte unlocked decoded
    refine ⟨loaded, _, loaded, _, exec_fetchSequence up byte, ?_⟩
    rw [State.matcher_setMatcher, if_pos rfl, sequenceReply_of_no_deadline rfl,
      ((SeqDef.decode?_eq_some_iff_encode (by simp) d).mp decoded).2]
    rfl
  · rw [exec_fetchSequence up byte, absent, sequenceReply]
  · rw [exec_fetchSequence up byte, defined, sequenceReply_of_no_deadline still]
  · have still : m.deadline = none := Option.not_isSome_iff_eq_none.mp (fun h => sound.deadline.mp h start)
    rw [exec_fetchSequence up byte, defined, sequenceReply_of_no_deadline still, start]
    rfl
  · refine ⟨BitVec.ofNat 16 (((e - s.timeBase).toNat + 999) / 1000), ?_, ?_, ?_⟩
    · rw [BitVec.toNat_ofNat]
      omega
    · rw [BitVec.toNat_ofNat]
      omega
    · rw [exec_fetchSequence up byte, defined, sequenceReply_of_deadline deadline, List.append_assoc]
      rfl
  · refine ⟨exec_row_of_reply up rfl (.inr rfl) ?_, fun unlocked => ⟨exec_row_of_reply up rfl (.inl unlocked) ?_,
      fun image => exec_row_of_reply up rfl (.inl unlocked) ?_⟩⟩
    · have index : matcherOfByte? (byteAt [b] 0) = none := matcherOfByte?_eq_none bad
      simp only [carryAllowed, carryFetchSequence, index]
      rfl
    · have index : matcherOfByte? (byteAt [b] 0) = none := matcherOfByte?_eq_none bad
      simp only [carryAllowed, carryDropSequence, index]
      rfl
    · have index : matcherOfByte? (byteAt (b :: image.toList) 0) = none := matcherOfByte?_eq_none bad
      simp only [carryAllowed, carryLoadSequence, index]
      rfl

end Sys2Proof.Machine
end

section
/-! SUPPORT and PROOFS. The event record image and the taking of records (O41). -/

namespace Sys2Proof.Machine

/-! ### The bytes of flags and small numbers (Table 10-8) -/

theorem eightFlags_bits (f7 f6 f5 f4 f3 f2 f1 f0 : Bool) :
    (List.range 8).map (fun k => ((bit f7 ++ bit f6 ++ bit f5 ++ bit f4 ++ bit f3 ++ bit f2 ++ bit f1 ++ bit f0).getLsbD k).toNat)
      = [f0, f1, f2, f3, f4, f5, f6, f7].map Bool.toNat := by
  revert f7 f6 f5 f4 f3 f2 f1 f0
  decide

theorem kindMatcherGroup_bits (group matcher : BitVec 2) (kind : BitVec 1) :
    let b : Byte := (0 : BitVec 3) ++ group ++ matcher ++ kind
    b.extractLsb' 0 1 = kind ∧ b.extractLsb' 1 2 = matcher ∧ b.extractLsb' 3 2 = group ∧ b.extractLsb' 5 3 = 0 := by
  revert group matcher kind
  decide

theorem byteAddr_toNat (w : WordAddr) : (byteAddr w).toNat = 4 * w.toNat := by
  rw [byteAddr, toNat_append_eq]
  exact Nat.mul_comm _ _

/-- The image of a record whose repeat count fits its byte. -/
theorem Record.hasImage_encode {r : Record} (count : r.repeatCount ≤ 255) : r.HasImage r.encode := by
  obtain ⟨seq, firstTime, lastTime, repeatCount, e⟩ := r
  have small := kindMatcherGroup_bits (BitVec.ofNat 2 (e.group.elim 0 (·.val))) (BitVec.ofNat 2 (e.matcher.elim 0 (·.val)))
    (e.access.elim 0 (fun a => accessKindCode a.kind))
  obtain ⟨kindBit, matcherBits, groupBits, zeroBits⟩ := small
  have lowFour : ∀ i : Option (Fin 4), (BitVec.ofNat 2 (i.elim 0 Fin.val)).toNat = i.elim 0 Fin.val := by decide
  constructor
  case length => rfl
  case seq =>
    rw [fieldAt_two]
    exact congrArg BitVec.toNat (bytes16_join seq)
  case kind => exact fieldAt_one _ _
  case reason =>
    refine (fieldAt_one _ _).trans ?_
    change (e.reason.elim 0 Reason.code).toNat = _
    cases e.reason <;> rfl
  case firstTime =>
    rw [fieldAt_four]
    exact congrArg BitVec.toNat (bytes32_join firstTime)
  case lastTime =>
    rw [fieldAt_four]
    exact congrArg BitVec.toNat (bytes32_join lastTime)
  case repeatCount => exact (fieldAt_one _ _).trans (ofNat8_toNat count)
  case present =>
    refine (List.map_congr_left fun k _ => bitsAt_one _ 13 k).trans ?_
    exact eightFlags_bits ..
  case region =>
    refine (fieldAt_one _ _).trans (ofNat8_toNat ?_)
    cases e.region with
    | none => exact Nat.zero_le _
    | some i => change i.val ≤ 255; omega
  case htag =>
    rw [bitsAt_eq]
    refine (congrArg BitVec.toNat BitVec.extractLsb'_append_eq_right).trans ?_
    change (e.access.elim 0 (fun a => BitVec.ofNat 4 a.htag.val)).toNat = e.access.elim 0 (fun a => a.htag.val)
    cases e.access with
    | none => rfl
    | some a =>
      change (BitVec.ofNat 4 a.htag.val).toNat = a.htag.val
      rw [BitVec.toNat_ofNat, Nat.mod_eq_of_lt a.htag.isLt]
  case lanes =>
    rw [bitsAt_eq]
    refine (congrArg BitVec.toNat BitVec.extractLsb'_append_eq_left).trans ?_
    change (e.access.elim 0 (·.lanes)).toNat = e.access.elim 0 (fun a => a.lanes.toNat)
    cases e.access <;> rfl
  case accessKind =>
    rw [bitsAt_eq]
    refine (congrArg BitVec.toNat kindBit).trans ?_
    change _ = e.access.elim 0 (fun a => if a.kind = .write then 1 else 0)
    cases e.access with
    | none => rfl
    | some a => cases kind : a.kind <;> simp [kind, accessKindCode]
  case matcher =>
    rw [bitsAt_eq]
    exact (congrArg BitVec.toNat matcherBits).trans (lowFour e.matcher)
  case group =>
    rw [bitsAt_eq]
    exact (congrArg BitVec.toNat groupBits).trans (lowFour e.group)
  case zero =>
    rw [bitsAt_eq, fieldAt_one]
    exact ⟨congrArg BitVec.toNat zeroBits, rfl⟩
  case count =>
    rw [fieldAt_two]
    refine (congrArg BitVec.toNat (bytes16_join (e.count.getD 0))).trans ?_
    change _ = e.count.elim 0 BitVec.toNat
    cases e.count <;> rfl
  case word =>
    rw [fieldAt_four]
    refine (congrArg BitVec.toNat (bytes32_join (e.word.elim 0 byteAddr))).trans ?_
    change _ = e.word.elim 0 (fun w => 4 * w.toNat)
    cases e.word with
    | none => rfl
    | some w => exact byteAddr_toNat w
  case attempted =>
    rw [fieldAt_four]
    refine (congrArg BitVec.toNat (bytes32_join (e.attempted.getD 0))).trans ?_
    change _ = e.attempted.elim 0 BitVec.toNat
    cases e.attempted <;> rfl
  case reference =>
    rw [fieldAt_four]
    refine (congrArg BitVec.toNat (bytes32_join (e.reference.getD 0))).trans ?_
    change _ = e.reference.elim 0 BitVec.toNat
    cases e.reference <;> rfl

/-! ### Taking a record (R142, R143) -/

section

variable {s : State}

theorem exec_takeEvent_of_empty (up : LinkUp s) (empty : s.records = []) :
    exec .takeEvent s = .next (s.answered .takeEvent .empty (List.replicate 32 0)) := by
  refine exec_row_of_reply up rfl (.inr rfl) ?_
  have none_ : s.atCommand.records = [] := empty
  simp only [carryAllowed, carryTakeEvent, none_]

theorem State.nameHead_of_head {r : Record} {rest : List Record} (head : s.records = r :: rest) :
    s.nameHead = { s with taking := true, openUntil := if rest = [] then none else s.openUntil } := by
  have alone : s.records.length = 1 ↔ rest = [] := by simp [head]
  exact congrArg (fun o => { s with taking := true, openUntil := o }) (if_congr alone rfl rfl)

theorem exec_takeEvent_of_head (up : LinkUp s) {r : Record} {rest : List Record} (head : s.records = r :: rest) :
    exec .takeEvent s = .next
      { s with taking := true, openUntil := if rest = [] then none else s.openUntil,
               frame := .output .takeEvent .turnaround .done r.encode } := by
  have records : s.atCommand.records = r :: rest := head
  have carried : s.atCommand.carryOut .takeEvent [] = ⟨.done, r.encode, s.atCommand.nameHead⟩ := by
    rw [State.carryOut_of_allowed (.inr rfl)]
    simp only [carryAllowed, carryTakeEvent, records]
  rw [exec_of_frameOf rfl, State.runFrame_of_linkUp up, State.effectEvent, carried, State.nameHead_of_head records]
  rfl

theorem exec_takeEventRemoval_of_unnamed (unnamed : s.taking = false) : exec .takeEventRemoval s = .next s := by
  refine congrArg Host.Outcome.next ?_
  split
  · exact if_neg (by rw [unnamed]; exact Bool.false_ne_true)
  · rfl

/-- The removal event of a record that is named, in the frame that names it. -/
theorem exec_takeEventRemoval_of_named {phase : OutPhase} {image : List Byte}
    (frame : s.frame = .output .takeEvent phase .done image) (named : s.taking = true) :
    exec .takeEventRemoval s = .next (s.removeHead.withFrame (.output .takeEvent .trailer .done image)) := by
  refine congrArg Host.Outcome.next ?_
  rw [frame]
  exact if_pos named

end

/-- Settles O41: the removal takes the head away and then reports the losses. -/
theorem takeEventTakesTheHead : Obligations.TakeEventTakesTheHead := by
  refine ⟨fun r count => Record.hasImage_encode count, by decide, by decide, fun s => ⟨exec_takeEventRemoval_of_unnamed,
    exec_takeEvent_of_empty, fun r rest up head => exec_takeEvent_of_head up head,
    fun r rest phase image frame named head => ⟨fun none_ => ?_, fun f l some_ first latest => ?_⟩⟩⟩
  · rw [exec_takeEventRemoval_of_named frame named, State.removeHead, State.reportLosses, if_pos none_, head]
    rfl
  · rw [exec_takeEventRemoval_of_named frame named, State.removeHead, State.reportLosses, if_neg some_, head,
      State.pushRecord_eq, first, latest]
    rfl

end Sys2Proof.Machine
end
